-- ==== Sys2Proof/Word.lean ====
section
/-! DEFINITION. The word types of SM-UFA and the plainest arithmetic on them (spec/00_scope.md R11, R12). -/

namespace Sys2Proof

/-- One character, or one byte of a frame (R12, R84). -/
abbrev Byte := BitVec 8

/-- A 16-bit quantity: an address, a count, a data word, a check value (R18, R88). -/
abbrev Word := BitVec 16

/-- One datum of the host port (R11). -/
abbrev HostData := BitVec 32

/-- An index of the host register space (R11, R80). -/
abbrev HostIndex := BitVec 9

end Sys2Proof
end

