-- ==== Sys2Proof/Syntax.lean ====
section
/-! DEFINITION. What the block is given and what it performs: the inputs of a tick, and one constructor of `Instr` for each row of
spec/opcode_table.json. -/

namespace Sys2Proof

/-- What the host presents on a tick: `h_op` with `h_idx` and `h_wdata` (spec/40_timing_and_ports.md R151, R156). -/
inductive HostOp where
  | none
  | rd (idx : HostIndex)
  | wr (idx : HostIndex) (data : HostData)
deriving DecidableEq, Repr, Inhabited

/-- The inputs of one tick (spec/45_session_and_host.md R280). `rx` is `rx_data` when `rx_valid = 1`; when `rx_valid = 0` the port's
data are ignored (R152) and there is nothing to hold. -/
structure TickInput where
  rst     : Bool
  rx      : Option Byte
  txReady : Bool
  host    : HostOp
deriving DecidableEq, Repr, Inhabited

/-- A tick with no reset, no character, a transmitter that is not ready and no host operation. -/
def TickInput.quiet : TickInput :=
  { rst := false, rx := none, txReady := false, host := .none }

/-- The Parsed Frame of spec/44_response_decoder.md R240 and R244: `ok(frame)`. -/
structure ParsedFrame where
  station       : Byte
  function      : Byte
  byteCount     : Byte
  registerCount : Nat
  values        : List Word
deriving DecidableEq, Repr, Inhabited

/-- What `DECODE` answers (R240). -/
inductive Decoded where
  | ok (frame : ParsedFrame)
  | shortFrame
  | invalidFrame
  | badLength
deriving DecidableEq, Repr, Inhabited

/-- A response frame of format `RESP` (spec/30_encoding.md R113) without its two checksum bytes, which the bytes before them fix:
`data` holds the declared data region and the slack after it. -/
structure RespFrame where
  station   : Byte
  function  : Byte
  byteCount : Byte
  data      : List Byte
deriving DecidableEq, Repr, Inhabited

/-- One constructor per row of spec/opcode_table.json. Checksum bytes are no operands (they are functions of the other bytes), nor
are bits the spec says are ignored. -/
inductive Instr where
  /-- `REQ.READ`, format R111: the request frame of ReadHoldingRegisters. -/
  | reqRead (station : Byte) (address count : Word)
  /-- `REQ.WRITE`, format R112: the request frame of WriteMultipleRegisters. -/
  | reqWrite (station : Byte) (address count : Word) (words : List Word)
  /-- `RESP`, format R113: a response frame. -/
  | resp (frame : RespFrame)
  /-- `HRD idx` (R261). -/
  | hrd (idx : HostIndex)
  /-- `HWR idx, data` (R262). -/
  | hwr (idx : HostIndex) (data : HostData)
  /-- `START.READ` (R267): a write to `CMD` whose low byte is 3. -/
  | startRead
  /-- `START.WRITE` (R268): a write to `CMD` whose low byte is 16. -/
  | startWrite
  /-- `START.REFUSE` (R266): a write to `CMD` that the legality checks turn away. -/
  | startRefuse (fn : Byte)
  /-- `ACK` (R269). -/
  | ack
  /-- `TX.BYTE` (R223): the transmitter is ready, the byte is not the last. -/
  | txByte
  /-- `TX.STALL` (R223): the transmitter is not ready. -/
  | txStall
  /-- `TX.LAST` (R224): the transmitter is ready, the byte is the last. -/
  | txLast
  /-- `RX.BYTE` (R172): a character is presented and the buffer has room. -/
  | rxByte (data : Byte)
  /-- `RX.DROP` (R173): a character is presented and the buffer is full. -/
  | rxDrop
  /-- `RX.DISCARD` (R153): a character is presented outside `PHASE = WAIT`. -/
  | rxDiscard
  /-- `SIL.TICK` (R174). -/
  | silTick
  /-- `IDLE.EXPIRE` (R175). -/
  | idleExpire
  /-- `COMPLETE.OK(frame)` (R272). -/
  | completeOk (frame : ParsedFrame)
  /-- `WAIT.TICK` (R270). -/
  | waitTick
  /-- `WAIT.EXPIRE` (R271). -/
  | waitExpire
  /-- `RESET` (R340). -/
  | reset
  /-- `CRC16.BYTE(c, b)` (R201). -/
  | crc16Byte (crc : Word) (byte : Byte)
  /-- `CRC16(m)` (R202). -/
  | crc16 (m : List Byte)
  /-- `CRC.SPLIT(c)` (R204). -/
  | crcSplit (crc : Word)
  /-- `CRC.VERIFY(m, x)` (R205). -/
  | crcVerify (m : List Byte) (x : Word)
  /-- `ENCODE.READ(station, addr, count)` (R220). -/
  | encodeRead (station : Byte) (address count : Word)
  /-- `ENCODE.WRITE(station, addr, count, words)` (R221). -/
  | encodeWrite (station : Byte) (address count : Word) (words : List Word)
  /-- `DECODE(buf)` (R240). -/
  | decode (buf : List Byte)
  /-- `IDLETK(BAUDDIV)` (R158). -/
  | idletk (bauddiv : Word)
deriving DecidableEq, Repr, Inhabited

end Sys2Proof
end

