-- ==== Sys2Proof/Config.lean ====
section
/-! DEFINITION. What an implementation fixes (spec/00_scope.md R7 to R9) and the model's free value. -/

namespace Sys2Proof

/-- The parameters SM names without a value (R9): arguments of the model, fixed for the life of an instance. -/
structure Config where
  /-- `MAX_FRAME`, the frame buffer's size in bytes. -/
  maxFrame     : Nat
  /-- `CRC_POLY`, bit-reversed as R201 uses it. -/
  crcPoly      : Word
  /-- `CRC_XOROUT`. -/
  crcXorOut    : Word
  /-- `RX_CRC_HI_FIRST`. -/
  rxCrcHiFirst : Bool
deriving DecidableEq, Repr, Inhabited

/-- The defaults of R9. PRESUMED (assumption 3): the spec marks the first three as general knowledge, not in its source. Unsafe if
a claim rests on them; claims quantify over every `Config`. -/
def Config.standard : Config :=
  { maxFrame := 256, crcPoly := 0xA001, crcXorOut := 0x0000, rxCrcHiFirst := true }

/-- The constraints of R9: `MAX_FRAME ≥ 5`; `CRC_POLY` non-zero with bit 15 set. -/
def Config.legal (c : Config) : Bool :=
  decide (5 ≤ c.maxFrame) && c.crcPoly.getLsbD 15

/-- `FN_READ` (R7). -/
abbrev fnRead : Byte := 0x03

/-- `FN_WRITE` (R7). -/
abbrev fnWrite : Byte := 0x10

/-- `CRC_INIT` (R7). -/
abbrev crcInit : Word := 0xFFFF

/-- `MIN_FRAME` (R7). -/
abbrev minFrame : Nat := 5

/-- `IDLE_BITS = IDLE_CHARS × CHAR_BITS = 3.5 × 10` (R8). -/
abbrev idleBits : Nat := 35

/-- `MAX_WR_WORDS` (R8). -/
abbrev maxWriteWords : Nat := 127

/-- `RES_WORDS` (R8); the payload store has the same size (R32). -/
abbrev resWords : Nat := 127

/-- The inputs of tick `n` where the state's queue holds none: a FREE VALUE (assumption 1). All non-determinism of the machine is in
the inputs of its agents (R17); with no queued input the model says nothing of them. Safe. -/
opaque Config.freeInput : Nat → TickInput

end Sys2Proof
end

