-- ==== Sys2Proof/Machine/Crc.lean ====
section
/-! DEFINITION. The CRC-16 of spec/42_crc16.md and the byte splits and joins of spec/20_memory.md R85 to R87 and spec/30_encoding.md R114. -/

namespace Sys2Proof.Machine

/-- `v[15:8]` (R114). -/
def hiByte (v : Word) : Byte := v.extractLsb' 8 8

/-- `v[7:0]` (R114). -/
def loByte (v : Word) : Byte := v.extractLsb' 0 8

/-- `{hi, lo} = hi × 256 + lo` (R85, R114). -/
def joinBytes (hi lo : Byte) : Word := hi ++ lo

/-- One shift of R201: `c[0]` decides whether the polynomial is folded in. -/
def crcShift (poly c : Word) : Word :=
  if c.getLsbD 0 then (c >>> 1) ^^^ poly else c >>> 1

/-- `repeat n times` of R201. -/
def crcShifts (poly : Word) : Nat → Word → Word
  | 0, c => c
  | n + 1, c => crcShifts poly n (crcShift poly c)

/-- `CRC16.BYTE(c, b)` (R201). -/
def crcByte (cfg : Config) (c : Word) (b : Byte) : Word :=
  crcShifts cfg.crcPoly 8 (c ^^^ b.setWidth 16)

/-- The register after the bytes of `m`, from the value `c` (the loop of R202). -/
def crcFold (cfg : Config) (c : Word) (m : List Byte) : Word :=
  m.foldl (crcByte cfg) c

/-- `CRC16(m)` (R202). -/
def crcOf (cfg : Config) (m : List Byte) : Word :=
  crcFold cfg crcInit m ^^^ cfg.crcXorOut

/-- `CRC.SPLIT` (R204): the low byte and the high byte of a check value. -/
def splitCrc (c : Word) : Byte × Byte := (loByte c, hiByte c)

/-- `CRC.VERIFY(m, x)` (R205). -/
def verifyCrc (cfg : Config) (m : List Byte) (x : Word) : Bool :=
  decide (crcOf cfg m = x)

/-- A frame's bytes with the request checksum after them, low byte first (R86). -/
def withTxCrc (cfg : Config) (body : List Byte) : List Byte :=
  body ++ [(splitCrc (crcOf cfg body)).1, (splitCrc (crcOf cfg body)).2]

/-- The check value that two trailing response bytes carry, by `RX_CRC_HI_FIRST` (R87). -/
def rxCrcOf (cfg : Config) (first second : Byte) : Word :=
  if cfg.rxCrcHiFirst then joinBytes first second else joinBytes second first

/-- A frame's bytes with the checksum a response must carry after them (R87, R113). -/
def withRxCrc (cfg : Config) (body : List Byte) : List Byte :=
  if cfg.rxCrcHiFirst then body ++ [(splitCrc (crcOf cfg body)).2, (splitCrc (crcOf cfg body)).1]
  else body ++ [(splitCrc (crcOf cfg body)).1, (splitCrc (crcOf cfg body)).2]

end Sys2Proof.Machine
end

