-- ==== Sys2Proof/Machine/Codec.lean ====
section
/-! DEFINITION. The request encoder of spec/43_request_encoder.md and the response decoder of spec/44_response_decoder.md, as
functions of bytes and the configuration. -/

namespace Sys2Proof.Machine

/-- `(2 × COUNT)[7:0]` (spec/30_encoding.md R112, R115). -/
def byteCountOf (count : Word) : Byte := loByte (2 * count)

/-- The data bytes of a write request: word `i` as its high byte then its low byte, `i = 0 .. count − 1` (R112, R221). -/
def dataBytes (count : Nat) (words : List Word) : List Byte :=
  (List.range count).flatMap fun i => [hiByte (words.getD i 0), loByte (words.getD i 0)]

/-- The six header bytes that both requests share (R111, R112). -/
def requestHeader (station fn : Byte) (address count : Word) : List Byte :=
  [station, fn, hiByte address, loByte address, hiByte count, loByte count]

/-- `ENCODE.READ` (R220). -/
def encodeReadFrame (cfg : Config) (station : Byte) (address count : Word) : List Byte :=
  withTxCrc cfg (requestHeader station fnRead address count)

/-- `ENCODE.WRITE` (R221). -/
def encodeWriteFrame (cfg : Config) (station : Byte) (address count : Word) (words : List Word) : List Byte :=
  withTxCrc cfg (requestHeader station fnWrite address count ++ byteCountOf count :: dataBytes count.toNat words)

/-- The bytes of a response frame with a right checksum (R113). -/
def encodeRespFrame (cfg : Config) (f : RespFrame) : List Byte :=
  withRxCrc cfg (f.station :: f.function :: f.byteCount :: f.data)

/-- The check value the last two bytes of a candidate frame carry (R242). -/
def carriedCrc (cfg : Config) (buf : List Byte) : Word :=
  rxCrcOf cfg (buf.getD (buf.length - 2) 0) (buf.getD (buf.length - 1) 0)

/-- The words of the data region: word `i` is `{buf[3 + 2i], buf[4 + 2i]}` (R244). -/
def projectWords (buf : List Byte) (registerCount : Nat) : List Word :=
  (List.range registerCount).map fun i => joinBytes (buf.getD (3 + 2 * i) 0) (buf.getD (4 + 2 * i) 0)

/-- The projection of a frame that has passed the checks (R244). -/
def projectFrame (buf : List Byte) : ParsedFrame :=
  { station := buf.getD 0 0
    function := buf.getD 1 0
    byteCount := buf.getD 2 0
    registerCount := (buf.getD 2 0).toNat / 2
    values := projectWords buf ((buf.getD 2 0).toNat / 2) }

/-- `DECODE(buf)` (R240): length, then checksum, then byte-count (R245). -/
def decodeCandidate (cfg : Config) (buf : List Byte) : Decoded :=
  if buf.length < minFrame then .shortFrame
  else if verifyCrc cfg (buf.take (buf.length - 2)) (carriedCrc cfg buf) = false then .invalidFrame
  else if buf.length - 2 < 3 + (buf.getD 2 0).toNat then .badLength
  else .ok (projectFrame buf)

/-- `IDLETK = 35 × BAUDDIV`, 22 bits (spec/40_timing_and_ports.md R158). -/
def idleTicks (bauddiv : Word) : BitVec 22 :=
  BitVec.ofNat 22 idleBits * bauddiv.setWidth 22

end Sys2Proof.Machine
end

