-- ==== Sys2Proof/Machine/State.lean ====
section
/-! DEFINITION. The state of one block instance as plain data: the tuple of spec/10_state.md R30 and the model's own fields; its
reset value (R56); the reasons a step could stop. -/

namespace Sys2Proof.Machine

/-- `PHASE` (R36). The unused code 3 has no constructor: it "is never taken". -/
inductive Phase where
  | idle | tx | wait
deriving DecidableEq, Repr, Inhabited

/-- `ASM` (R39). -/
inductive Asm where
  | idle | receiving
deriving DecidableEq, Repr, Inhabited

/-- `RCODE` (R47). The unused code 3 has no constructor. -/
inductive RCode where
  | none | ok | noresp
deriving DecidableEq, Repr, Inhabited

/-- `CMDCAUSE` (R49). The unused codes 5 to 7 have no constructor. -/
inductive Cause where
  | none | busy | illfn | cfg | count
deriving DecidableEq, Repr, Inhabited

/-- The frame buffer space (spec/20_memory.md R80 (1)): (address, byte) pairs, addresses strictly rising, no entry equal to what an
unlisted address reads as. -/
abbrev Memory := List Host.Cell

/-- What a byte of the frame buffer that nothing has written reads as. DESIGN CHOICE (assumption 4): the spec leaves it unspecified
and no rule reads it. Unsafe if a claim rests on it. -/
abbrev unlistedByte : Byte := 0

/-- The canonical form of `Memory`. -/
def Memory.wf : Memory → Bool
  | [] => true
  | c :: rest => decide (c.2 ≠ unlistedByte) && rest.all (fun d => decide (c.1 < d.1)) && Memory.wf rest

/-- The output ports on the last tick (spec/40_timing_and_ports.md R151), and the byte transferred to the transmitter on it, if any
(R154). The model's own record (assumption 6). -/
structure Outputs where
  txValid     : Bool
  txData      : Byte
  hRdata      : HostData
  doneO       : Bool
  busyO       : Bool
  transferred : Option Byte
deriving DecidableEq, Repr, Inhabited

/-- The value a pure function of the table returned. The model's own record (assumption 7). -/
inductive FnResult where
  | none
  | word (w : Word)
  | split (lo hi : Byte)
  | flag (b : Bool)
  | bytes (bs : List Byte)
  | decoded (d : Decoded)
  | ticks (t : BitVec 22)
deriving DecidableEq, Repr, Inhabited

/-- The state of one block instance (R30), then the model's own fields `cfg`, `inputs`, `tick`, `out` and `result`. -/
structure State where
  /-- `PHASE` (R36). -/
  phase    : Phase
  /-- `FN` (R38). -/
  fn       : Byte
  /-- `TXI` (R37). -/
  txi      : BitVec 9
  /-- `ASM` (R39). -/
  asm      : Asm
  /-- `LEN` (R40). -/
  len      : Nat
  /-- `FB` (R41). -/
  fb       : Memory
  /-- `SIL` (R42). -/
  sil      : BitVec 22
  /-- `WAITC` (R43). -/
  waitc    : BitVec 32
  /-- `BAUDDIV` (R44). -/
  bauddiv  : Word
  /-- `RESPTO` (R46). -/
  respto   : BitVec 32
  /-- `STATION` (R31). -/
  station  : Byte
  /-- `ADDR` (R31). -/
  addr     : Word
  /-- `COUNT` (R31). -/
  count    : Word
  /-- `PWORD[0 .. 126]` (R32). -/
  pword    : Vector Word 127
  /-- `DONE` (R47). -/
  done     : Bool
  /-- `RCODE` (R47). -/
  rcode    : RCode
  /-- `RSTATION` (R34). -/
  rstation : Byte
  /-- `RFUNC` (R34). -/
  rfunc    : Byte
  /-- `RBYTES` (R34). -/
  rbytes   : Byte
  /-- `RCOUNT` (R34). -/
  rcount   : BitVec 7
  /-- `RWORD[0 .. 126]` (R33). -/
  rword    : Vector Word 127
  /-- `OVF` (R48). -/
  ovf      : Bool
  /-- `BADCRC` (R48). -/
  badcrc   : Bool
  /-- `SHORT` (R48). -/
  short    : Bool
  /-- `BADLEN` (R48). -/
  badlen   : Bool
  /-- `CMDERR` (R49). -/
  cmderr   : Bool
  /-- `CMDCAUSE` (R49). -/
  cmdcause : Cause
  /-- The configuration parameters (spec/00_scope.md R9), carried because a step takes nothing but the state; nothing writes them. -/
  cfg      : Config
  /-- The inputs of the coming ticks, oldest first. -/
  inputs   : List TickInput
  /-- The number of steps taken. -/
  tick     : Nat
  /-- The output ports on the last tick. -/
  out      : Outputs
  /-- The value the last pure-function row returned. -/
  result   : FnResult
deriving DecidableEq, Repr, Inhabited

/-- The output ports before any tick: DESIGN CHOICE (assumption 6). -/
def Outputs.rest : Outputs :=
  { txValid := false, txData := 0, hRdata := 0, doneO := false, busyO := false, transferred := none }

/-- The machine right after reset (R56, spec/70_reset_and_hazards.md R341). `fb` and `rword` are unspecified there and unobservable;
their values here are DESIGN CHOICES (assumptions 4 and 5), as are those of `inputs`, `tick`, `out` and `result`. -/
def State.reset : State :=
  { phase := .idle, fn := 0, txi := 0, asm := .idle, len := 0, fb := [], sil := 0, waitc := 0,
    bauddiv := 0, respto := 0, station := 0, addr := 0, count := 0, pword := Vector.replicate 127 0,
    done := false, rcode := .none, rstation := 0, rfunc := 0, rbytes := 0, rcount := 0, rword := Vector.replicate 127 0,
    ovf := false, badcrc := false, short := false, badlen := false, cmderr := false, cmdcause := .none,
    cfg := Config.standard, inputs := [], tick := 0, out := Outputs.rest, result := .none }

/-- Why the machine could stop with a fault. No constructor: the block has no trap, no vector and no handler (spec/00_scope.md R14),
its step "is a total function: the block has no stuck state and no undefined input" (spec/45_session_and_host.md R280), and no
instruction takes an address of the frame buffer. Nothing raises a fault; safe. -/
inductive Fault where
deriving DecidableEq, Repr

/-- Why an instruction could be refused. -/
inductive Refusal where
  /-- Raised by `exec` for an instruction that has no meaning in the model yet. Every instruction has one, so nothing raises it.
  Safe: the machine stops. -/
  | notModelled (mnemonic : String)
deriving DecidableEq, Repr

end Sys2Proof.Machine
end

