-- ==== Sys2Proof/Machine/Operands.lean ====
section
/-! DEFINITION. Operand forms: the host register index map (spec/10_state.md R53), the candidate frame in the frame buffer, and the
request frame as a function of state (spec/43_request_encoder.md R222). -/

namespace Sys2Proof.Machine

/-- What an index of the host register space names (R53). -/
inductive HostReg where
  | cmd | status | bauddiv | idletk | respto | station | addr | count | rhead | ack
  | pword (i : Fin 127)
  | rword (i : Fin 127)
  | unmapped
deriving DecidableEq, Repr

/-- The registers below the two stores (R53): indices 0x00 to 0x09; no other index names one. -/
def singleReg : Nat → HostReg
  | 0x00 => .cmd
  | 0x01 => .status
  | 0x02 => .bauddiv
  | 0x03 => .idletk
  | 0x04 => .respto
  | 0x05 => .station
  | 0x06 => .addr
  | 0x07 => .count
  | 0x08 => .rhead
  | 0x09 => .ack
  | _ => .unmapped

/-- The index map (R53): the payload store at 0x80 to 0xFE, the result store at 0x100 to 0x17E, and the single registers. -/
def hostReg (idx : HostIndex) : HostReg :=
  if h : 0x80 ≤ idx.toNat ∧ idx.toNat ≤ 0xFE then .pword ⟨idx.toNat - 0x80, by omega⟩
  else if h : 0x100 ≤ idx.toNat ∧ idx.toNat ≤ 0x17E then .rword ⟨idx.toNat - 0x100, by omega⟩
  else singleReg idx.toNat

/-- The byte of the frame buffer at an address (spec/20_memory.md R81, R84). -/
def memRead : Memory → Nat → Byte
  | [], _ => unlistedByte
  | (k, v) :: rest, a => if k = a then v else memRead rest a

/-- One byte stored in front of the entries above it: nothing is listed for the value an unlisted address reads as. -/
def memCons (a : Nat) (b : Byte) (rest : Memory) : Memory :=
  if b = unlistedByte then rest else (a, b) :: rest

/-- `FB[a] <- b`, in canonical form (R81, R84). -/
def memWrite : Memory → Nat → Byte → Memory
  | [], a, b => memCons a b []
  | (k, v) :: rest, a, b =>
    if a < k then memCons a b ((k, v) :: rest)
    else if a = k then memCons a b rest
    else (k, v) :: memWrite rest a b

/-- The bytes of `bs` at addresses `a`, `a + 1`, … -/
def memFill (m : Memory) (a : Nat) : List Byte → Memory
  | [] => m
  | b :: rest => memFill (memWrite m a b) (a + 1) rest

/-- The candidate frame `FB[0 .. LEN)` (spec/00_scope.md R19). -/
def candidate (s : State) : List Byte :=
  (List.range s.len).map (memRead s.fb)

/-- `IDLETK` (spec/10_state.md R45): evaluated on every use. -/
def idleTicksOf (s : State) : Nat := (idleTicks s.bauddiv).toNat

/-- The request of the operation in flight as an instruction: the format by `FN`, the operands from the operand registers (R222). No
request is defined for another `FN`; no reachable state has one while `PHASE = TX` (R55 (h), assumption 10). -/
def requestInstr (s : State) : Option Instr :=
  if s.fn = fnRead then some (.reqRead s.station s.addr s.count)
  else if s.fn = fnWrite then some (.reqWrite s.station s.addr s.count (s.pword.toList.take s.count.toNat))
  else none

/-- `ReqFrame` (R222). -/
def reqFrame (s : State) : List Byte :=
  if s.fn = fnRead then encodeReadFrame s.cfg s.station s.addr s.count
  else if s.fn = fnWrite then encodeWriteFrame s.cfg s.station s.addr s.count (s.pword.toList.take s.count.toNat)
  else []

/-- `ReqLen = len(ReqFrame)` (R222). -/
def reqLen (s : State) : Nat := (reqFrame s).length

/-- `ReqFrame[TXI]`, the byte offered to the transmitter (spec/40_timing_and_ports.md R154). -/
def frameByte (frame : List Byte) (s : State) : Byte := frame.getD s.txi.toNat 0

/-- The data of a host write truncated to a 16-bit register (R53). -/
def low16 (data : HostData) : Word := data.setWidth 16

/-- The data of a host write truncated to an 8-bit register (R53). -/
def low8 (data : HostData) : Byte := data.setWidth 8

end Sys2Proof.Machine
end

