-- ==== Sys2Proof/Machine/Flags.lean ====
section
/-! DEFINITION. The sticky diagnostic flags (spec/10_state.md R48), the command verdict (R49), the numeric codes of R36, R39, R47 and
R49, and the words `STATUS` (R50) and `RHEAD` (R51). -/

namespace Sys2Proof.Machine

/-- The code of `PHASE` (R36). -/
def phaseCode : Phase → BitVec 2
  | .idle => 0
  | .tx => 1
  | .wait => 2

/-- The code of `ASM` (R39). -/
def asmCode : Asm → BitVec 1
  | .idle => 0
  | .receiving => 1

/-- The code of `RCODE` (R47). -/
def rcodeCode : RCode → BitVec 2
  | .none => 0
  | .ok => 1
  | .noresp => 2

/-- The code of `CMDCAUSE` (R49). -/
def causeCode : Cause → BitVec 3
  | .none => 0
  | .busy => 1
  | .illfn => 2
  | .cfg => 3
  | .count => 4

/-- `BUSY`: `PHASE ≠ IDLE` (R50). -/
def busy (s : State) : Bool := decide (s.phase ≠ .idle)

/-- `STATUS` (R50), bit 31 leftmost. -/
def statusWord (s : State) : HostData :=
  0#8 ++ s.fn ++ causeCode s.cmdcause ++ BitVec.ofBool s.cmderr ++ BitVec.ofBool s.badlen ++ BitVec.ofBool s.short
    ++ BitVec.ofBool s.badcrc ++ BitVec.ofBool s.ovf ++ 0#1 ++ rcodeCode s.rcode ++ asmCode s.asm ++ phaseCode s.phase
    ++ BitVec.ofBool s.done ++ BitVec.ofBool (busy s)

/-- `RHEAD` (R51), gated by `RCODE = OK`. -/
def rheadWord (s : State) : HostData :=
  if s.rcode = .ok then 0#1 ++ s.rcount ++ s.rbytes ++ s.rfunc ++ s.rstation else 0

/-- The four diagnostic flags cleared, as an accepted `START` does (R48, spec/45_session_and_host.md R265). -/
def clearDiagnostics (s : State) : State :=
  { s with ovf := false, badcrc := false, short := false, badlen := false }

/-- `discard(ShortFrame)` sets `SHORT` (spec/44_response_decoder.md R247). -/
def flagShort (s : State) : State := { s with short := true }

/-- `discard(InvalidFrame)` sets `BADCRC` (R247). -/
def flagBadCrc (s : State) : State := { s with badcrc := true }

/-- `discard(BadLength)` sets `BADLEN` (R247). -/
def flagBadLen (s : State) : State := { s with badlen := true }

/-- `OVF <- 1` (spec/41_frame_assembler.md R173). -/
def flagOverflow (s : State) : State := { s with ovf := true }

/-- The verdict on a write to `CMD` (R49). -/
def setVerdict (err : Bool) (cause : Cause) (s : State) : State :=
  { s with cmderr := err, cmdcause := cause }

end Sys2Proof.Machine
end

