-- ==== Sys2Proof/Machine/Ops.lean ====
section
/-! DEFINITION. The operations the instructions share: the assembler's reset, completion (the block's "trap entry") and
acknowledgement (its "trap return"), the start of an operation, host reads and writes, the hand-over of a candidate frame, and the
selecting conditions of the internal operations. -/

namespace Sys2Proof.Machine

/-- The Raw Frame Buffer "reset to empty": `LEN <- 0`, `ASM <- Idle`, `SIL <- 0`; `FB` itself is not cleared (spec/10_state.md R41,
spec/41_frame_assembler.md R176). -/
def clearAssembler (s : State) : State :=
  { s with len := 0, asm := .idle, sil := 0 }

/-- COMPLETION, the block's "trap entry" (spec/60_exceptions.md R305): the completion record is set, the sequencer returns to
`PHASE = IDLE` and the assembler and the wait counter are reset. Nothing else changes. -/
def complete (code : RCode) (s : State) : State :=
  { clearAssembler s with phase := .idle, done := true, rcode := code, waitc := 0 }

/-- ACKNOWLEDGEMENT, the block's "trap return" (R309): `DONE <- 0 ; RCODE <- NONE` (spec/45_session_and_host.md R269). -/
def acknowledge (s : State) : State :=
  { s with done := false, rcode := .none }

/-- `ACK`: ignored while `PHASE ≠ IDLE` (R263, R269). -/
def ackCommand (s : State) : State :=
  if s.phase = .idle then acknowledge s else s

/-- The Parsed Frame into the result registers (R272); `RWORD[i]` for `i ≥ register_count` is not written. -/
def storeFrame (f : ParsedFrame) (s : State) : State :=
  { s with
    rstation := f.station
    rfunc := f.function
    rbytes := f.byteCount
    rcount := BitVec.ofNat 7 f.registerCount
    rword := Vector.ofFn fun i : Fin 127 => if i.val < f.registerCount then f.values.getD i.val 0 else s.rword[i] }

/-- `COMPLETE.OK(frame)` (R272). -/
def completeWith (f : ParsedFrame) (s : State) : State :=
  complete .ok (storeFrame f s)

/-- The hand-over of a non-empty candidate frame to `DECODE`: completion or discard (spec/41_frame_assembler.md R175,
spec/44_response_decoder.md R247). -/
def handOver (buf : List Byte) (s : State) : State :=
  match decodeCandidate s.cfg buf with
  | .ok f => completeWith f s
  | .shortFrame => flagShort s
  | .invalidFrame => flagBadCrc s
  | .badLength => flagBadLen s

/-- The end of a receive cycle (R175): "the buffer (if non-empty) is handed to the Wire Codec", then it is reset to empty. -/
def endCycle (buf : List Byte) (s : State) : State :=
  clearAssembler (if buf.length = 0 then s else handOver buf s)

/-- `legality(fn)` (R266): the first check that fails gives the cause, `.none` when all pass. -/
def legality (fn : Byte) (s : State) : Cause :=
  if s.phase ≠ .idle then .busy
  else if fn ≠ fnRead ∧ fn ≠ fnWrite then .illfn
  else if s.bauddiv = 0 ∨ s.respto = 0 then .cfg
  else if fn = fnWrite ∧ maxWriteWords < s.count.toNat then .count
  else .none

/-- A refused `START`: `CMDERR <- 1 ; CMDCAUSE <- cause`, nothing else changes (R265, R266). -/
def refuseStart (cause : Cause) (s : State) : State :=
  setVerdict true cause s

/-- An accepted `START` (R265). -/
def acceptStart (fn : Byte) (s : State) : State :=
  { setVerdict false .none (clearAssembler (clearDiagnostics s)) with
    fn := fn, phase := .tx, txi := 0, done := false, rcode := .none, waitc := 0 }

/-- `START(fn)` (R265). -/
def startCommand (fn : Byte) (s : State) : State :=
  if legality fn s = .none then acceptStart fn s else refuseStart (legality fn s) s

/-- The value of a host read (R261): total, no side effect. -/
def readHost (s : State) (idx : HostIndex) : HostData :=
  match hostReg idx with
  | .cmd => 0
  | .status => statusWord s
  | .bauddiv => s.bauddiv.setWidth 32
  | .idletk => (idleTicks s.bauddiv).setWidth 32
  | .respto => s.respto
  | .station => s.station.setWidth 32
  | .addr => s.addr.setWidth 32
  | .count => s.count.setWidth 32
  | .rhead => rheadWord s
  | .ack => 0
  | .pword i => s.pword[i].setWidth 32
  | .rword i => if s.rcode = .ok ∧ i.val < s.rcount.toNat then s.rword[i].setWidth 32 else 0
  | .unmapped => 0

/-- A host write to a register that is writable "when `IDLE`" (R53), or to one that ignores writes (R91). -/
def storeHost (idx : HostIndex) (data : HostData) (s : State) : State :=
  match hostReg idx with
  | .bauddiv => { s with bauddiv := low16 data }
  | .respto => { s with respto := data }
  | .station => { s with station := low8 data }
  | .addr => { s with addr := low16 data }
  | .count => { s with count := low16 data }
  | .pword i => { s with pword := s.pword.set i.val (low16 data) i.isLt }
  | .cmd => s
  | .status => s
  | .idletk => s
  | .rhead => s
  | .ack => s
  | .rword _ => s
  | .unmapped => s

/-- `HWR idx, data` (R262): `CMD` in every phase, every other write only while `PHASE = IDLE` (R263). -/
def writeHost (idx : HostIndex) (data : HostData) (s : State) : State :=
  if idx = 0x000 then startCommand (low8 data) s
  else if s.phase ≠ .idle then s
  else if idx = 0x009 then acknowledge s
  else storeHost idx data s

/-- The transmit port while `PHASE = TX`: `tx_valid = 1`, `tx_data` the frame's byte `TXI` (spec/40_timing_and_ports.md R154). Outside
that phase nothing is offered. -/
def offerFrame (frame : List Byte) (s : State) : State :=
  if s.phase = .tx then { s with out := { s.out with txValid := true, txData := frameByte frame s } } else s

/-- The byte `ReqFrame[TXI]` is transferred to the transmitter on this tick (R154, spec/43_request_encoder.md R223). -/
def transferByte (s : State) : State :=
  { offerFrame (reqFrame s) s with
    out := { (offerFrame (reqFrame s) s).out with transferred := some (frameByte (reqFrame s) s) } }

/-- The value of a pure function, delivered (assumption 7). -/
def deliver (r : FnResult) (s : State) : State :=
  { s with result := r }

/-- `TX.BYTE` is selected when the transmitter is ready and … (R223). -/
abbrev txByteSelected (s : State) : Prop := s.phase = .tx ∧ s.txi.toNat + 1 < reqLen s

/-- `TX.LAST` is selected when the transmitter is ready and … (R224). -/
abbrev txLastSelected (s : State) : Prop := s.phase = .tx ∧ s.txi.toNat + 1 = reqLen s

/-- `RX.BYTE` is selected when a character is presented and … (spec/41_frame_assembler.md R172). -/
abbrev rxByteSelected (s : State) : Prop := s.phase = .wait ∧ s.len < s.cfg.maxFrame

/-- `RX.DROP` is selected when a character is presented and … (R173); `LEN` never exceeds `MAX_FRAME` (R40, assumption 11). -/
abbrev rxDropSelected (s : State) : Prop := s.phase = .wait ∧ s.cfg.maxFrame ≤ s.len

/-- `SIL.TICK` is selected when no character is presented and … (R174). -/
abbrev silTickSelected (s : State) : Prop := s.phase = .wait ∧ s.sil.toNat + 1 < idleTicksOf s

/-- `IDLE.EXPIRE` is selected when no character is presented and … (R175). -/
abbrev idleExpireSelected (s : State) : Prop := s.phase = .wait ∧ idleTicksOf s ≤ s.sil.toNat + 1

/-- `WAIT.TICK` is selected when `COMPLETE.OK` was not performed and … (spec/45_session_and_host.md R270). -/
abbrev waitTickSelected (s : State) : Prop := s.phase = .wait ∧ s.waitc.toNat + 1 < s.respto.toNat

/-- `WAIT.EXPIRE` is selected when `COMPLETE.OK` was not performed and … (R271). -/
abbrev waitExpireSelected (s : State) : Prop := s.phase = .wait ∧ s.respto.toNat ≤ s.waitc.toNat + 1

/-- `RESET` (spec/70_reset_and_hazards.md R340): the whole architectural state takes the values of R56; the model's own fields stay
(assumption 17). -/
def resetBlock (s : State) : State :=
  { State.reset with cfg := s.cfg, inputs := s.inputs, tick := s.tick, out := s.out, result := s.result }

end Sys2Proof.Machine
end

