-- ==== Sys2Proof/Machine/Frames.lean ====
section
/-! DEFINITION. The meanings of the three frame formats (spec/30_encoding.md R111 to R113). A request frame goes from the block to the
line: while `PHASE = TX` its byte `TXI` is what the transmit port offers. A response frame goes from the line to the block: it is the
candidate frame that the idle expiry hands to the decoder (assumption 9). -/

namespace Sys2Proof.Machine

/-- `REQ.READ` (R111, R220, spec/40_timing_and_ports.md R154). -/
def execReqRead (station : Byte) (address count : Word) (s : State) : Host.Outcome State Fault Refusal :=
  .next (offerFrame (encodeReadFrame s.cfg station address count) s)

/-- `REQ.WRITE` (R112, R221, R154). -/
def execReqWrite (station : Byte) (address count : Word) (words : List Word) (s : State) : Host.Outcome State Fault Refusal :=
  .next (offerFrame (encodeWriteFrame s.cfg station address count words) s)

/-- `RESP` (R113, spec/44_response_decoder.md R240): the frame ends at an idle expiry and is decoded on that tick. -/
def execResp (frame : RespFrame) (s : State) : Host.Outcome State Fault Refusal :=
  .next (if idleExpireSelected s then endCycle (encodeRespFrame s.cfg frame) s else s)

end Sys2Proof.Machine
end

