-- ==== Sys2Proof/Machine/Functions.lean ====
section
/-! DEFINITION. The meanings of the pure functions (spec/42_crc16.md, spec/43_request_encoder.md, spec/44_response_decoder.md,
spec/40_timing_and_ports.md R158): they write no state of the block; the value goes to `State.result` (assumption 7). -/

namespace Sys2Proof.Machine

/-- `CRC16.BYTE(c, b)` (R201). -/
def execCrc16Byte (crc : Word) (byte : Byte) (s : State) : Host.Outcome State Fault Refusal :=
  .next (deliver (.word (crcByte s.cfg crc byte)) s)

/-- `CRC16(m)` (R202). -/
def execCrc16 (m : List Byte) (s : State) : Host.Outcome State Fault Refusal :=
  .next (deliver (.word (crcOf s.cfg m)) s)

/-- `CRC.SPLIT(c)` (R204). -/
def execCrcSplit (crc : Word) (s : State) : Host.Outcome State Fault Refusal :=
  .next (deliver (.split (splitCrc crc).1 (splitCrc crc).2) s)

/-- `CRC.VERIFY(m, x)` (R205). -/
def execCrcVerify (m : List Byte) (x : Word) (s : State) : Host.Outcome State Fault Refusal :=
  .next (deliver (.flag (verifyCrc s.cfg m x)) s)

/-- `ENCODE.READ(station, addr, count)` (R220). -/
def execEncodeRead (station : Byte) (address count : Word) (s : State) : Host.Outcome State Fault Refusal :=
  .next (deliver (.bytes (encodeReadFrame s.cfg station address count)) s)

/-- `ENCODE.WRITE(station, addr, count, words)` (R221). -/
def execEncodeWrite (station : Byte) (address count : Word) (words : List Word) (s : State) : Host.Outcome State Fault Refusal :=
  .next (deliver (.bytes (encodeWriteFrame s.cfg station address count words)) s)

/-- `DECODE(buf)` (R240). -/
def execDecode (buf : List Byte) (s : State) : Host.Outcome State Fault Refusal :=
  .next (deliver (.decoded (decodeCandidate s.cfg buf)) s)

/-- `IDLETK(BAUDDIV)` (R158). -/
def execIdletk (bauddiv : Word) (s : State) : Host.Outcome State Fault Refusal :=
  .next (deliver (.ticks (idleTicks bauddiv)) s)

end Sys2Proof.Machine
end

