-- ==== Sys2Proof/Machine/HostAccess.lean ====
section
/-! DEFINITION. The meanings of the host operations and commands (spec/45_session_and_host.md R260 to R269). -/

namespace Sys2Proof.Machine

/-- `HRD idx` (R261): the value appears on `h_rdata` (spec/40_timing_and_ports.md R156); no state of the block changes. -/
def execHrd (idx : HostIndex) (s : State) : Host.Outcome State Fault Refusal :=
  .next { s with out := { s.out with hRdata := readHost s idx } }

/-- `HWR idx, data` (R262, R263). -/
def execHwr (idx : HostIndex) (data : HostData) (s : State) : Host.Outcome State Fault Refusal :=
  .next (writeHost idx data s)

/-- `START.READ` (R265, R267): `START(3)`; where the legality checks fail, the refusal of R266. -/
def execStartRead (s : State) : Host.Outcome State Fault Refusal :=
  .next (startCommand fnRead s)

/-- `START.WRITE` (R265, R268): `START(16)`; where the legality checks fail, the refusal of R266. -/
def execStartWrite (s : State) : Host.Outcome State Fault Refusal :=
  .next (startCommand fnWrite s)

/-- `START.REFUSE` (R266): the refusing branch of `START` only; where `legality(fn)` passes it is not selected and changes nothing
(assumption 12). -/
def execStartRefuse (fn : Byte) (s : State) : Host.Outcome State Fault Refusal :=
  .next (if legality fn s = .none then s else refuseStart (legality fn s) s)

/-- `ACK` (R269). -/
def execAck (s : State) : Host.Outcome State Fault Refusal :=
  .next (ackCommand s)

end Sys2Proof.Machine
end

