-- ==== Sys2Proof/Machine/Receive.lean ====
section
/-! DEFINITION. The meanings of the Frame Assembler's operations (spec/41_frame_assembler.md R172 to R175) and of `RX.DISCARD`
(spec/40_timing_and_ports.md R153). An operation that the state does not select changes nothing (assumption 8); that a character is
presented, or none, is the caller's part of the selecting condition. -/

namespace Sys2Proof.Machine

/-- `RX.BYTE` (R172). -/
def execRxByte (data : Byte) (s : State) : Host.Outcome State Fault Refusal :=
  .next (if rxByteSelected s then { s with fb := memWrite s.fb s.len data, len := s.len + 1, asm := .receiving, sil := 0 } else s)

/-- `RX.DROP` (R173). -/
def execRxDrop (s : State) : Host.Outcome State Fault Refusal :=
  .next (if rxDropSelected s then { flagOverflow s with asm := .receiving, sil := 0 } else s)

/-- `RX.DISCARD` (R153): "no state changes, no flag is set". -/
def execRxDiscard (s : State) : Host.Outcome State Fault Refusal :=
  .next s

/-- `SIL.TICK` (R174). -/
def execSilTick (s : State) : Host.Outcome State Fault Refusal :=
  .next (if silTickSelected s then { s with sil := s.sil + 1 } else s)

/-- `IDLE.EXPIRE` (R175), with the `COMPLETE.OK` or the discard it performs on the same tick. -/
def execIdleExpire (s : State) : Host.Outcome State Fault Refusal :=
  .next (if idleExpireSelected s then endCycle (candidate s) s else s)

end Sys2Proof.Machine
end

