-- ==== Sys2Proof/Machine/Session.lean ====
section
/-! DEFINITION. The meanings of the session operations (spec/45_session_and_host.md R270 to R272) and of `RESET`
(spec/70_reset_and_hazards.md R340). An operation that the state does not select changes nothing (assumption 8). -/

namespace Sys2Proof.Machine

/-- `COMPLETE.OK(frame)` (R272); a completion needs `PHASE = WAIT` (R310). -/
def execCompleteOk (frame : ParsedFrame) (s : State) : Host.Outcome State Fault Refusal :=
  .next (if s.phase = .wait then completeWith frame s else s)

/-- `WAIT.TICK` (R270). -/
def execWaitTick (s : State) : Host.Outcome State Fault Refusal :=
  .next (if waitTickSelected s then { s with waitc := s.waitc + 1 } else s)

/-- `WAIT.EXPIRE` (R271). -/
def execWaitExpire (s : State) : Host.Outcome State Fault Refusal :=
  .next (if waitExpireSelected s then complete .noresp s else s)

/-- `RESET` (R340). -/
def execReset (s : State) : Host.Outcome State Fault Refusal :=
  .next (resetBlock s)

end Sys2Proof.Machine
end

