-- ==== Sys2Proof/Machine/Transmit.lean ====
section
/-! DEFINITION. The meanings of the transmit operations (spec/43_request_encoder.md R223, R224). An operation that the state does not
select changes nothing (assumption 8); that the transmitter is ready, or not, is the caller's part of the selecting condition. -/

namespace Sys2Proof.Machine

/-- `TX.BYTE` (R223). -/
def execTxByte (s : State) : Host.Outcome State Fault Refusal :=
  .next (if txByteSelected s then { transferByte s with txi := s.txi + 1 } else s)

/-- `TX.STALL` (R223): the byte is offered, no state of the block is written. -/
def execTxStall (s : State) : Host.Outcome State Fault Refusal :=
  .next (offerFrame (reqFrame s) s)

/-- `TX.LAST` (R224). -/
def execTxLast (s : State) : Host.Outcome State Fault Refusal :=
  .next (if txLastSelected s then { clearAssembler (transferByte s) with phase := .wait, txi := 0, waitc := 0 } else s)

end Sys2Proof.Machine
end

