-- ==== Sys2Proof/Machine/Dispatch.lean ====
section
/-! DEFINITION. The dispatch of an instruction to its meaning: one arm per row of spec/opcode_table.json. -/

namespace Sys2Proof.Machine

def exec (i : Instr) (s : State) : Host.Outcome State Fault Refusal :=
  match i with
  -- frame formats
  | .reqRead station address count => Sys2Proof.Machine.execReqRead station address count s
  | .reqWrite station address count words => Sys2Proof.Machine.execReqWrite station address count words s
  | .resp frame => Sys2Proof.Machine.execResp frame s
  -- host operations and commands
  | .hrd idx => Sys2Proof.Machine.execHrd idx s
  | .hwr idx data => Sys2Proof.Machine.execHwr idx data s
  | .startRead => Sys2Proof.Machine.execStartRead s
  | .startWrite => Sys2Proof.Machine.execStartWrite s
  | .startRefuse fn => Sys2Proof.Machine.execStartRefuse fn s
  | .ack => Sys2Proof.Machine.execAck s
  -- internal operations
  | .txByte => Sys2Proof.Machine.execTxByte s
  | .txStall => Sys2Proof.Machine.execTxStall s
  | .txLast => Sys2Proof.Machine.execTxLast s
  | .rxByte data => Sys2Proof.Machine.execRxByte data s
  | .rxDrop => Sys2Proof.Machine.execRxDrop s
  | .rxDiscard => Sys2Proof.Machine.execRxDiscard s
  | .silTick => Sys2Proof.Machine.execSilTick s
  | .idleExpire => Sys2Proof.Machine.execIdleExpire s
  | .completeOk frame => Sys2Proof.Machine.execCompleteOk frame s
  | .waitTick => Sys2Proof.Machine.execWaitTick s
  | .waitExpire => Sys2Proof.Machine.execWaitExpire s
  | .reset => Sys2Proof.Machine.execReset s
  -- pure functions
  | .crc16Byte crc byte => Sys2Proof.Machine.execCrc16Byte crc byte s
  | .crc16 m => Sys2Proof.Machine.execCrc16 m s
  | .crcSplit crc => Sys2Proof.Machine.execCrcSplit crc s
  | .crcVerify m x => Sys2Proof.Machine.execCrcVerify m x s
  | .encodeRead station address count => Sys2Proof.Machine.execEncodeRead station address count s
  | .encodeWrite station address count words => Sys2Proof.Machine.execEncodeWrite station address count words s
  | .decode buf => Sys2Proof.Machine.execDecode buf s
  | .idletk bauddiv => Sys2Proof.Machine.execIdletk bauddiv s

end Sys2Proof.Machine
end

