-- ==== Sys2Proof/WellFormed.lean ====
section
/-! DEFINITION. Which terms of `Instr` stand for something the tables of the spec describe. -/

namespace Sys2Proof

/-- What `DECODE` can produce (spec/44_response_decoder.md R244): the register count is half the byte-count, one value each. -/
def ParsedFrame.wellFormed (f : ParsedFrame) : Bool :=
  decide (f.registerCount = f.byteCount.toNat / 2) && decide (f.values.length = f.registerCount)

/-- What format `RESP` admits (spec/30_encoding.md R110, R113): the declared data fits before the checksum, and the whole frame fits
the frame buffer. -/
def RespFrame.wellFormed (cfg : Config) (f : RespFrame) : Bool :=
  decide (f.byteCount.toNat ≤ f.data.length) && decide (f.data.length + 5 ≤ cfg.maxFrame)

/-- The operands a write request admits (spec/43_request_encoder.md R221): `count ≤ 127` and one word for each. -/
def writeOperandsWellFormed (count : Word) (words : List Word) : Bool :=
  decide (count.toNat ≤ maxWriteWords) && decide (words.length = count.toNat)

/-- The checks on the terms of each row. `HWR` is every write but those to `CMD` and `ACK` (R118); a write to `CMD` of 3 or 16 is the
row `START.READ` or `START.WRITE`, whose meaning holds its own refusal, so `START.REFUSE` is left the other codes; `DECODE` "is never
called with an empty buffer" (R240). -/
def Instr.wellFormed (cfg : Config) : Instr → Bool
  | .reqRead _ _ _ => true
  | .reqWrite _ _ count words => writeOperandsWellFormed count words
  | .resp frame => frame.wellFormed cfg
  | .hrd _ => true
  | .hwr idx _ => decide (idx ≠ 0x000) && decide (idx ≠ 0x009)
  | .startRead => true
  | .startWrite => true
  | .startRefuse fn => decide (fn ≠ fnRead) && decide (fn ≠ fnWrite)
  | .ack => true
  | .txByte => true
  | .txStall => true
  | .txLast => true
  | .rxByte _ => true
  | .rxDrop => true
  | .rxDiscard => true
  | .silTick => true
  | .idleExpire => true
  | .completeOk frame => frame.wellFormed
  | .waitTick => true
  | .waitExpire => true
  | .reset => true
  | .crc16Byte _ _ => true
  | .crc16 _ => true
  | .crcSplit _ => true
  | .crcVerify _ _ => true
  | .encodeRead _ _ _ => true
  | .encodeWrite _ _ count words => writeOperandsWellFormed count words
  | .decode buf => decide (1 ≤ buf.length) && decide (buf.length ≤ cfg.maxFrame)
  | .idletk _ => true

end Sys2Proof
end

