-- ==== Sys2Proof/Decode.lean ====
section
/-! DEFINITION. From encoded forms to instructions and back. The block meets three kinds of encoding: the host port (spec/30_encoding.md
R118), request frames (R111, R112) and response frames (R113). "Internal operations are selected by state and inputs, not by an
encoding" (R124), and neither have the pure functions one. -/

namespace Sys2Proof

open Machine

/-- An encoded form, as the hardware carries it. A frame's direction (block to line, line to block) tells its format: by its bytes
alone every request frame could be a response. -/
inductive Code where
  /-- Bytes from the block to the line. -/
  | request (bytes : List Byte)
  /-- Bytes from the line to the block. -/
  | response (bytes : List Byte)
  /-- The host port on one tick. -/
  | port (op : HostOp)
deriving DecidableEq, Repr, Inhabited

/-- Why an encoded form stands for no instruction. -/
inductive DecodeError where
  /-- The host port shows no operation (`h_op = NONE`). -/
  | noOperation
  /-- A request frame shorter than its format. -/
  | truncatedRequest
  /-- A request frame whose function byte is neither 3 nor 16 (R117, R119). -/
  | unknownFunction (fn : Byte)
  /-- A request frame longer or shorter than its format says. -/
  | requestLength
  /-- A write request of more than 127 words (R112, R115). -/
  | requestCount
  /-- A write request whose byte-count is not twice its count (R112). -/
  | requestByteCount
  /-- A request frame whose last two bytes are not its checksum, low byte first (R86, R116). -/
  | requestChecksum
  /-- A response frame of fewer than 5 bytes (R241). -/
  | shortFrame
  /-- A response frame with a wrong checksum (R242). -/
  | invalidFrame
  /-- A response frame whose declared data do not fit (R243). -/
  | badLength
  /-- A response frame longer than `MAX_FRAME` (R110, R240). -/
  | frameTooLong
deriving DecidableEq, Repr, Inhabited

/-- The host port (R118): a write to index 0 selects by its low byte, a write to index 9 is `ACK`, every other write is `HWR`, and
every read is `HRD`. -/
def decodePort : HostOp → Except DecodeError Instr
  | .none => .error .noOperation
  | .rd idx => .ok (.hrd idx)
  | .wr idx data =>
    if idx = 0x000 then
      if data.setWidth 8 = fnRead then .ok .startRead
      else if data.setWidth 8 = fnWrite then .ok .startWrite
      else .ok (.startRefuse (data.setWidth 8))
    else if idx = 0x009 then .ok .ack
    else .ok (.hwr idx data)

/-- Pairs of bytes as words, high byte first (R85). A last odd byte belongs to no word. -/
def pairWords : List Byte → List Word
  | hi :: lo :: rest => joinBytes hi lo :: pairWords rest
  | _ => []

/-- Format `REQ_READ` after its function byte (R111). -/
def decodeReadRequest (cfg : Config) (station ah al ch cl : Byte) (tail : List Byte) : Except DecodeError Instr :=
  if tail.length ≠ 2 then .error .requestLength
  else if requestHeader station fnRead (joinBytes ah al) (joinBytes ch cl) ++ tail
      ≠ withTxCrc cfg (requestHeader station fnRead (joinBytes ah al) (joinBytes ch cl)) then .error .requestChecksum
  else .ok (.reqRead station (joinBytes ah al) (joinBytes ch cl))

/-- Format `REQ_WRITE` after its function byte (R112). -/
def decodeWriteRequest (cfg : Config) (station ah al ch cl : Byte) : List Byte → Except DecodeError Instr
  | [] => .error .truncatedRequest
  | bc :: tail =>
    if maxWriteWords < (joinBytes ch cl).toNat then .error .requestCount
    else if bc ≠ byteCountOf (joinBytes ch cl) then .error .requestByteCount
    else if tail.length ≠ 2 * (joinBytes ch cl).toNat + 2 then .error .requestLength
    else if requestHeader station fnWrite (joinBytes ah al) (joinBytes ch cl) ++ bc :: tail
        ≠ withTxCrc cfg (requestHeader station fnWrite (joinBytes ah al) (joinBytes ch cl)
            ++ bc :: tail.take (2 * (joinBytes ch cl).toNat)) then .error .requestChecksum
    else .ok (.reqWrite station (joinBytes ah al) (joinBytes ch cl) (pairWords (tail.take (2 * (joinBytes ch cl).toNat))))

/-- A frame from the block to the line: by its function byte (R117), format `REQ_READ` or `REQ_WRITE`. -/
def decodeRequest (cfg : Config) : List Byte → Except DecodeError Instr
  | station :: fn :: ah :: al :: ch :: cl :: tail =>
    if fn = fnRead then decodeReadRequest cfg station ah al ch cl tail
    else if fn = fnWrite then decodeWriteRequest cfg station ah al ch cl tail
    else .error (.unknownFunction fn)
  | _ => .error .truncatedRequest

/-- A frame from the line to the block: format `RESP`, whatever its function byte (R113, R120), by the checks of R240 to R245. -/
def decodeResponse (cfg : Config) (bytes : List Byte) : Except DecodeError Instr :=
  match decodeCandidate cfg bytes with
  | .shortFrame => .error .shortFrame
  | .invalidFrame => .error .invalidFrame
  | .badLength => .error .badLength
  | .ok f =>
    if cfg.maxFrame < bytes.length then .error .frameTooLong
    else .ok (.resp { station := f.station, function := f.function, byteCount := f.byteCount,
                      data := (bytes.drop 3).take (bytes.length - 5) })

/-- Decoding, total on every encoded form. -/
def decode (cfg : Config) : Code → Except DecodeError Instr
  | .request bytes => decodeRequest cfg bytes
  | .response bytes => decodeResponse cfg bytes
  | .port op => decodePort op

/-- The encoded form of an instruction, `none` for the internal operations and the pure functions (R124). Bits the spec says are
ignored (the upper data bits of a write to `CMD`, the data of a write to `ACK`; R52) are written as 0. -/
def encode (cfg : Config) : Instr → Option Code
  | .reqRead station address count => some (.request (encodeReadFrame cfg station address count))
  | .reqWrite station address count words => some (.request (encodeWriteFrame cfg station address count words))
  | .resp frame => some (.response (encodeRespFrame cfg frame))
  | .hrd idx => some (.port (.rd idx))
  | .hwr idx data => some (.port (.wr idx data))
  | .startRead => some (.port (.wr 0x000 (fnRead.setWidth 32)))
  | .startWrite => some (.port (.wr 0x000 (fnWrite.setWidth 32)))
  | .startRefuse fn => some (.port (.wr 0x000 (fn.setWidth 32)))
  | .ack => some (.port (.wr 0x009 0))
  | .txByte => none
  | .txStall => none
  | .txLast => none
  | .rxByte _ => none
  | .rxDrop => none
  | .rxDiscard => none
  | .silTick => none
  | .idleExpire => none
  | .completeOk _ => none
  | .waitTick => none
  | .waitExpire => none
  | .reset => none
  | .crc16Byte _ _ => none
  | .crc16 _ => none
  | .crcSplit _ => none
  | .crcVerify _ _ => none
  | .encodeRead _ _ _ => none
  | .encodeWrite _ _ _ _ => none
  | .decode _ => none
  | .idletk _ => none

/-- The encoded form that a word of spec/opcode_table.json stands for (assumption 13). A row of one byte is a frame format, its bits
are byte 1, the function byte (R124); every other operand byte is 0 and the checksum is the one the format asks for. A wider row is a
host command, its bits are `{h_idx, h_wdata[7:0]}` with `h_op = WR`; the data bits above are 0. -/
def codeOfTableWord (cfg : Config) (nbits w : Nat) : Code :=
  if nbits ≤ 8 then
    if BitVec.ofNat 8 w = fnRead then .request (encodeReadFrame cfg 0 0 0)
    else if BitVec.ofNat 8 w = fnWrite then .request (encodeWriteFrame cfg 0 0 0 [])
    else .response (encodeRespFrame cfg { station := 0, function := BitVec.ofNat 8 w, byteCount := 0, data := [] })
  else .port (.wr (BitVec.ofNat 9 (w / 256)) (BitVec.ofNat 32 (w % 256)))

/-- The instruction the decoder reads from a word of spec/opcode_table.json, `none` where it refuses. -/
def decodeTableWord (nbits w : Nat) : Option Instr :=
  (decode Config.standard (codeOfTableWord Config.standard nbits w)).toOption

end Sys2Proof
end

