-- ==== Sys2Proof/Machine/Tick.lean ====
section
/-! DEFINITION. One tick apart from the performing of its operations: the sampling of the inputs, the output ports, and the list of
operations that the inputs and the state at the start of the tick select (spec/45_session_and_host.md R280, R281). -/

namespace Sys2Proof.Machine

/-- The inputs sampled on this tick: the oldest queued, or the free value of this tick when none is queued (assumption 1). -/
def currentInput (s : State) : TickInput :=
  match s.inputs with
  | [] => Config.freeInput s.tick
  | inp :: _ => inp

/-- The state with this tick's inputs taken and the outputs that R280 computes from the state alone: `tx_valid`, `done_o`, `busy_o`.
`tx_data` is 0 unless a request is offered, `h_rdata` is 0 unless a read is performed (R154, R156). -/
def sampled (s : State) : State :=
  { s with
    inputs := s.inputs.tail
    tick := s.tick + 1
    out := { txValid := decide (s.phase = .tx), txData := 0, hRdata := 0, doneO := s.done, busyO := busy s, transferred := none } }

/-- The request frame offered while `PHASE = TX` (R280 "outputs"; R154). -/
def offerOps (s : State) : List Instr :=
  if s.phase = .tx then (requestInstr s).toList else []

/-- The host operation of the tick (R280 step 2), read from the port by the decoder. -/
def hostOps (inp : TickInput) : List Instr :=
  (decodePort inp.host).toOption.toList

/-- A character outside `PHASE = WAIT` (R153). -/
def discardOps (inp : TickInput) : List Instr :=
  if inp.rx.isSome then [.rxDiscard] else []

/-- The transmit operation of a tick with `PHASE = TX` (R280 step 3). -/
def transmitOps (inp : TickInput) (s : State) : List Instr :=
  if inp.txReady = false then [.txStall]
  else if txByteSelected s then [.txByte]
  else if txLastSelected s then [.txLast]
  else []

/-- The assembler's operation of a tick with `PHASE = WAIT` (spec/41_frame_assembler.md R178; R281 step a). -/
def assemblerOp (inp : TickInput) (s : State) : Instr :=
  match inp.rx with
  | some data => if s.len < s.cfg.maxFrame then .rxByte data else .rxDrop
  | none => if s.sil.toNat + 1 < idleTicksOf s then .silTick else .idleExpire

/-- Does the assembler's operation of this tick perform `COMPLETE.OK` (R281 step b)? -/
def completesNow (inp : TickInput) (s : State) : Bool :=
  match assemblerOp inp s, decodeCandidate s.cfg (candidate s) with
  | .idleExpire, .ok _ => decide (0 < s.len)
  | _, _ => false

/-- The overall wait's operation of a tick with `PHASE = WAIT` (R281 steps b and c). -/
def waitOps (inp : TickInput) (s : State) : List Instr :=
  if completesNow inp s then []
  else if s.waitc.toNat + 1 < s.respto.toNat then [.waitTick]
  else [.waitExpire]

/-- The phase action (R280 step 3), by `PHASE` at the start of the tick. -/
def phaseOps (inp : TickInput) (s : State) : List Instr :=
  match s.phase with
  | .idle => discardOps inp
  | .tx => discardOps inp ++ transmitOps inp s
  | .wait => assemblerOp inp s :: waitOps inp s

/-- The operations of one tick, in the order of R280. Reset wins over everything but the outputs, which show the state before the tick
(spec/70_reset_and_hazards.md R340). -/
def tickOps (inp : TickInput) (s : State) : List Instr :=
  offerOps s ++ if inp.rst then [.reset] else hostOps inp ++ phaseOps inp s

/-- The state that has the encoded form where the next step takes it (assumption 2): a host operation stands on the port of the next
tick; a request frame is the frame of the operation in flight, `PHASE = TX`, at its first byte, with the transmitter not ready; a
response frame is the candidate frame in the buffer, `PHASE = WAIT`, with the idle timeout due and no character presented. -/
def placeCode (c : Code) (s : State) : State :=
  match c with
  | .port op => { s with inputs := { TickInput.quiet with host := op } :: s.inputs }
  | .request bytes =>
    match decodeRequest s.cfg bytes with
    | .ok (.reqRead station address count) =>
      { s with phase := .tx, fn := fnRead, txi := 0, station := station, addr := address, count := count,
               inputs := TickInput.quiet :: s.inputs }
    | .ok (.reqWrite station address count words) =>
      { s with phase := .tx, fn := fnWrite, txi := 0, station := station, addr := address, count := count,
               pword := Vector.ofFn fun i : Fin 127 => words.getD i.val s.pword[i],
               inputs := TickInput.quiet :: s.inputs }
    | _ => s
  | .response bytes =>
    { s with phase := .wait, fb := memFill s.fb 0 bytes, len := bytes.length, asm := .receiving,
             sil := BitVec.ofNat 22 (idleTicksOf s - 1), inputs := TickInput.quiet :: s.inputs }

end Sys2Proof.Machine
end

