-- ==== Sys2Proof/Machine/Step.lean ====
section
/-! DEFINITION. One step of the machine: one tick (spec/45_session_and_host.md R280). -/

namespace Sys2Proof.Machine

/-- The operations performed one after another, stopping at the first that does not answer a next state. -/
def performAll : List Instr → State → Host.Outcome State Fault Refusal
  | [], s => .next s
  | i :: rest, s =>
    match exec i s with
    | .next t => performAll rest t
    | .fault r => .fault r
    | .refused r => .refused r

/-- One tick: the inputs are sampled, the outputs are set, and the selected operations are performed. -/
def step (s : State) : Host.Outcome State Fault Refusal :=
  performAll (tickOps (currentInput s) s) (sampled s)

/-- The state whose next step runs the instruction that a word of spec/opcode_table.json stands for (assumption 2). -/
def State.withFetchWord (s : State) (nbits w : Nat) : State :=
  placeCode (codeOfTableWord s.cfg nbits w) s

end Sys2Proof.Machine
end

