-- ==== Sys2Proof/Safety.lean ====
section
/-! DEFINITION. What claims speak of: runs of many ticks, the invariants of spec/10_state.md R55, the Frame Assembler's operations, and which
states no observer can tell apart (R54, R56). -/

namespace Sys2Proof.Machine

/-- `n` ticks, stopping at the first that does not answer a next state. -/
def runTicks : Nat → State → Host.Outcome State Fault Refusal
  | 0, s => .next s
  | n + 1, s =>
    match step s with
    | .next t => runTicks n t
    | .fault r => .fault r
    | .refused r => .refused r

/-- What holds at every tick boundary. (a) of R55 is the type `Phase`; the first three clauses and the last are the model's: the
parameters are legal (spec/00_scope.md R9), the frame buffer is in canonical form and lists no address outside `0 .. MAX_FRAME − 1`
(R41), and `RCOUNT` is half of `RBYTES` (R34). -/
structure BoundaryInv (s : State) : Prop where
  cfgLegal    : s.cfg.legal = true
  bufferWf    : Memory.wf s.fb = true
  bufferRange : ∀ c ∈ s.fb, c.1 < s.cfg.maxFrame
  /-- R55 (b) -/
  idleClear   : s.phase = .idle → s.txi = 0 ∧ s.len = 0 ∧ s.asm = .idle ∧ s.sil = 0 ∧ s.waitc = 0
  /-- R55 (c) -/
  txClear     : s.phase = .tx →
    s.len = 0 ∧ s.asm = .idle ∧ s.sil = 0 ∧ s.waitc = 0 ∧ s.done = false ∧ s.txi.toNat < reqLen s
  /-- R55 (d) -/
  waitBounds  : s.phase = .wait →
    s.txi = 0 ∧ s.done = false ∧ s.sil.toNat < idleTicksOf s ∧ s.waitc.toNat < s.respto.toNat
  /-- R55 (e) -/
  receiving   : s.asm = .receiving ↔ 0 < s.len
  /-- R55 (f) -/
  doneRecord  : s.done = true ↔ s.rcode ≠ .none
  /-- R55 (g) -/
  doneIdle    : s.done = true → s.phase = .idle
  /-- R55 (h) -/
  activeLegal : s.phase ≠ .idle →
    (s.fn = fnRead ∨ s.fn = fnWrite) ∧ 0 < s.bauddiv.toNat ∧ 0 < s.respto.toNat ∧ (s.fn = fnWrite → s.count.toNat ≤ 127)
  /-- R55 (i) -/
  lenBound    : s.len ≤ s.cfg.maxFrame
  /-- R55 (j) -/
  causeNone   : s.cmderr = false → s.cmdcause = .none
  resultCount : s.rcount.toNat = s.rbytes.toNat / 2

/-- Is it one of the four operations of the Frame Assembler (spec/41_frame_assembler.md R178)? -/
def isAssemblerOp : Instr → Bool
  | .rxByte _ => true
  | .rxDrop => true
  | .silTick => true
  | .idleExpire => true
  | _ => false

/-- `s` and `t` differ at most in what the spec leaves unspecified: bytes of `FB` at and above `LEN` (R41) and result words the gate
hides (R33). -/
structure SameVisible (s t : State) : Prop where
  others : t = { s with fb := t.fb, rword := t.rword }
  buffer : ∀ a, a < s.len → memRead t.fb a = memRead s.fb a
  result : s.rcode = .ok → ∀ i : Fin 127, i.val < s.rcount.toNat → t.rword[i] = s.rword[i]

end Sys2Proof.Machine
end

