-- ==== Sys2Proof/Certificates/Slice0/Obligations.lean ====
section
/-! DEFINITION. The statements for the provers. Every next state is written as an update of the state before, so that each statement
is also a frame: a field it does not name is unchanged. The model's own field `out` records the ports, `result` the value of a pure
function. -/

open Sys2Proof Sys2Proof.Machine

/-! ## Pure functions -/

/-- R201: `CRC16.BYTE` xors the byte in at the low end and shifts right eight times. -/
def Obligations.Crc16ByteIsEightRightShifts : Prop :=
  ∀ (s : State) (c r : Word) (b : Byte),
    r = (fun x : Word => if x.getLsbD 0 then (x >>> 1) ^^^ s.cfg.crcPoly else x >>> 1)^[8] (c ^^^ b.setWidth 16) →
    exec (.crc16Byte c b) s = .next { s with result := .word r }

/-- R202: `CRC16` runs over the bytes from 0xFFFF and ends with the final xor. -/
def Obligations.Crc16RunsOverTheBytesFromItsInitialValue : Prop :=
  ∀ (s : State) (m : List Byte), ∃ c : List Byte → Word,
    exec (.crc16 m) s = .next { s with result := .word (c m ^^^ s.cfg.crcXorOut) } ∧ c [] = 0xFFFF ∧
    ∀ n b, exec (.crc16Byte (c n) b) s = .next { s with result := .word (c (n ++ [b])) }

/-- R204, first sentence: the two bytes of a check value. -/
def Obligations.CrcSplitGivesLowAndHighByte : Prop :=
  ∀ (s : State) (c : Word), ∃ lo hi : Byte,
    exec (.crcSplit c) s = .next { s with result := .split lo hi } ∧
    lo.toNat = c.toNat % 256 ∧ hi.toNat = c.toNat / 256

/-- R205: `CRC.VERIFY(m, x)` is true exactly when `CRC16(m) = x`. -/
def Obligations.CrcVerifyComparesTheCheckValue : Prop :=
  ∀ (s : State) (m : List Byte) (x : Word), ∃ b : Bool,
    exec (.crcVerify m x) s = .next { s with result := .flag b } ∧
    (b = true ↔ exec (.crc16 m) s = .next { s with result := .word x })

/-- R206 (a) and (b): the check value verifies, and one flipped bit changes it, for any polynomial with bit 15 set. -/
def Obligations.SingleBitErrorsChangeTheChecksum : Prop :=
  (∀ (s : State) (m : List Byte),
    exec (.crcVerify m (crcOf s.cfg m)) s = .next { s with result := .flag true }) ∧
  (∀ (cfg : Config) (m : List Byte) (i j : Nat), cfg.crcPoly.getLsbD 15 = true → i < m.length → j < 8 →
    crcOf cfg (m.set i (m.getD i 0 ^^^ (1#8 <<< j))) ≠ crcOf cfg m)

/-- R206 (b), its ground: for a polynomial with bit 15 set `CRC16.BYTE` is a bijection on the register for each byte. -/
def Obligations.CrcByteIsABijectionOfTheRegister : Prop :=
  ∀ (cfg : Config) (b : Byte), cfg.crcPoly.getLsbD 15 = true → Function.Bijective fun c => crcByte cfg c b

/-- R220 with R111: the eight bytes of a read request. -/
def Obligations.EncodeReadGivesTheEightRequestBytes : Prop :=
  ∀ (s : State) (station : Byte) (address count c : Word) (header : List Byte),
    header = [station, 0x03, address.extractLsb' 8 8, address.extractLsb' 0 8, count.extractLsb' 8 8, count.extractLsb' 0 8] →
    c = crcOf s.cfg header →
    exec (.encodeRead station address count) s
      = .next { s with result := .bytes (header ++ [c.extractLsb' 0 8, c.extractLsb' 8 8]) }

/-- R221 with R112: the bytes of a write request, by position. -/
def Obligations.EncodeWriteGivesTheRequestBytes : Prop :=
  ∀ (s : State) (station : Byte) (address count : Word) (words : List Word),
    count.toNat ≤ 127 → words.length = count.toNat →
    ∃ bs : List Byte,
      exec (.encodeWrite station address count words) s = .next { s with result := .bytes bs } ∧
      bs.length = 9 + 2 * count.toNat ∧
      bs.take 6 = [station, 0x10, address.extractLsb' 8 8, address.extractLsb' 0 8, count.extractLsb' 8 8, count.extractLsb' 0 8] ∧
      (bs.getD 6 0).toNat = 2 * count.toNat ∧
      (∀ i < count.toNat, bs.getD (7 + 2 * i) 0 = (words.getD i 0).extractLsb' 8 8 ∧
        bs.getD (8 + 2 * i) 0 = (words.getD i 0).extractLsb' 0 8) ∧
      bs.getD (7 + 2 * count.toNat) 0 = (crcOf s.cfg (bs.take (7 + 2 * count.toNat))).extractLsb' 0 8 ∧
      bs.getD (8 + 2 * count.toNat) 0 = (crcOf s.cfg (bs.take (7 + 2 * count.toNat))).extractLsb' 8 8

/-- R158: the idle timeout is 35 times the divider, with no overflow of its 22 bits. -/
def Obligations.IdleTimeoutIsThirtyFiveDividers : Prop :=
  ∀ (s : State) (b : Word), ∃ t : BitVec 22,
    exec (.idletk b) s = .next { s with result := .ticks t } ∧ t.toNat = 35 * b.toNat

/-- R240 and R245: length, then checksum, then byte-count; and the projection of R244. -/
def Obligations.DecodeAppliesItsChecksInOrder : Prop :=
  ∀ (s : State) (buf : List Byte) (x : Word),
    x = (if s.cfg.rxCrcHiFirst then buf.getD (buf.length - 2) 0 ++ buf.getD (buf.length - 1) 0
      else buf.getD (buf.length - 1) 0 ++ buf.getD (buf.length - 2) 0) →
    ∃ d : Decoded, exec (.decode buf) s = .next { s with result := .decoded d } ∧
      (buf.length < 5 → d = .shortFrame) ∧
      (5 ≤ buf.length → crcOf s.cfg (buf.take (buf.length - 2)) ≠ x → d = .invalidFrame) ∧
      (5 ≤ buf.length → crcOf s.cfg (buf.take (buf.length - 2)) = x →
        buf.length - 2 < 3 + (buf.getD 2 0).toNat → d = .badLength) ∧
      (5 ≤ buf.length → crcOf s.cfg (buf.take (buf.length - 2)) = x → 3 + (buf.getD 2 0).toNat ≤ buf.length - 2 →
        ∃ values : List Word,
          d = .ok { station := buf.getD 0 0, function := buf.getD 1 0, byteCount := buf.getD 2 0,
                    registerCount := (buf.getD 2 0).toNat / 2, values := values } ∧
          values.length = (buf.getD 2 0).toNat / 2 ∧
          ∀ i < (buf.getD 2 0).toNat / 2,
            (values.getD i 0).toNat = (buf.getD (3 + 2 * i) 0).toNat * 256 + (buf.getD (4 + 2 * i) 0).toNat)

/-! ## Encoding -/

/-- Every well-formed instruction that has an encoding is what its encoding decodes to, with every operand at every value the
encoding admits. The decoder of request frames is the model's (assumption 13). -/
def Obligations.DecodeInvertsEncode : Prop :=
  ∀ (cfg : Config) (i : Instr) (c : Code), i.wellFormed cfg = true → encode cfg i = some c → decode cfg c = .ok i

/-- A frame that decodes is the encoding of what it decodes to: no byte of a frame is dropped. The decoder of request frames is the
model's (assumption 13). -/
def Obligations.DecodedFramesEncodeBack : Prop :=
  ∀ (cfg : Config) (bytes : List Byte) (i : Instr),
    (decode cfg (.request bytes) = .ok i → encode cfg i = some (.request bytes)) ∧
    (decode cfg (.response bytes) = .ok i → encode cfg i = some (.response bytes))

/-- What the decoder answers is well-formed. The decoder of request frames is the model's (assumption 13). -/
def Obligations.DecodeAnswersWellFormedInstructions : Prop :=
  ∀ (cfg : Config) (c : Code) (i : Instr), decode cfg c = .ok i → i.wellFormed cfg = true

/-- A few encodings written out from R111, R112, R113 and R118 stand for the instructions they should. The parameters are the
defaults (assumption 3), the decoder of requests is the model's (assumption 13). -/
def Obligations.WrittenOutEncodingsDecode : Prop :=
  decode Config.standard (.request [0x01, 0x03, 0x01, 0x00, 0x00, 0x02, 0xC5, 0xF7]) = .ok (.reqRead 0x01 0x0100 2) ∧
  decode Config.standard (.request [0x01, 0x10, 0x02, 0x00, 0x00, 0x02, 0x04, 0x00, 0x0A, 0x01, 0x02, 0x4A, 0x9C])
    = .ok (.reqWrite 0x01 0x0200 2 [0x000A, 0x0102]) ∧
  decode Config.standard (.response [0x01, 0x03, 0x02, 0x11, 0x22, 0x99, 0x99, 0x3F, 0x7D])
    = .ok (.resp { station := 0x01, function := 0x03, byteCount := 0x02, data := [0x11, 0x22, 0x99, 0x99] }) ∧
  decode Config.standard (.port (.wr 0x000 0xABCDEF10)) = .ok .startWrite ∧
  decode Config.standard (.port (.wr 0x009 5)) = .ok .ack ∧
  decode Config.standard (.port (.rd 0x100)) = .ok (.hrd 0x100)

/-- A response as a remote device builds it, with the declared data in place, is accepted by `DECODE` and read back, whatever its
station, its function byte and its slack. The builder is the model's encoder (assumption 13). -/
def Obligations.DecodeReadsBackBuiltResponses : Prop :=
  ∀ (cfg : Config) (f : RespFrame), f.byteCount.toNat ≤ f.data.length →
    ∃ values : List Word,
      decodeCandidate cfg (encodeRespFrame cfg f) = .ok
        { station := f.station, function := f.function, byteCount := f.byteCount,
          registerCount := f.byteCount.toNat / 2, values := values } ∧
      values.length = f.byteCount.toNat / 2 ∧
      ∀ i < f.byteCount.toNat / 2, values.getD i 0 = f.data.getD (2 * i) 0 ++ f.data.getD (2 * i + 1) 0

/-! ## Host access and commands -/

/-- R261: the value of a host read of every index; nothing but the read port changes. -/
def Obligations.HostReadsFollowTheIndexMap : Prop :=
  ∀ (s : State) (idx : HostIndex), ∃ v : HostData,
    exec (.hrd idx) s = .next { s with out := { s.out with hRdata := v } } ∧
    (idx.toNat = 0x00 → v = 0) ∧
    (idx.toNat = 0x01 → v = statusWord s) ∧
    (idx.toNat = 0x02 → v = s.bauddiv.setWidth 32) ∧
    (idx.toNat = 0x03 → v.toNat = 35 * s.bauddiv.toNat) ∧
    (idx.toNat = 0x04 → v = s.respto) ∧
    (idx.toNat = 0x05 → v = s.station.setWidth 32) ∧
    (idx.toNat = 0x06 → v = s.addr.setWidth 32) ∧
    (idx.toNat = 0x07 → v = s.count.setWidth 32) ∧
    (idx.toNat = 0x08 → v = if s.rcode = .ok then 0#1 ++ s.rcount ++ s.rbytes ++ s.rfunc ++ s.rstation else 0) ∧
    (idx.toNat = 0x09 → v = 0) ∧
    (∀ i : Fin 127, idx.toNat = 0x80 + i.val → v = s.pword[i].setWidth 32) ∧
    (∀ i : Fin 127, idx.toNat = 0x100 + i.val →
      v = if s.rcode = .ok ∧ i.val < s.rcount.toNat then s.rword[i].setWidth 32 else 0) ∧
    (0x0A ≤ idx.toNat ∧ idx.toNat ≤ 0x7F ∨ idx.toNat = 0xFF ∨ 0x17F ≤ idx.toNat → v = 0)

/-- R50: the fields of `STATUS`; a write to its index is ignored. -/
def Obligations.StatusShowsItsFields : Prop :=
  ∀ s : State,
    (readHost s 0x001).extractLsb' 0 1 = (if s.phase = .idle then 0 else 1) ∧
    (readHost s 0x001).extractLsb' 1 1 = BitVec.ofBool s.done ∧
    (readHost s 0x001).extractLsb' 2 2 = (if s.phase = .idle then 0 else if s.phase = .tx then 1 else 2) ∧
    (readHost s 0x001).extractLsb' 4 1 = (if s.asm = .receiving then 1 else 0) ∧
    (readHost s 0x001).extractLsb' 5 2 = (if s.rcode = .none then 0 else if s.rcode = .ok then 1 else 2) ∧
    (readHost s 0x001).extractLsb' 7 1 = 0 ∧
    (readHost s 0x001).extractLsb' 8 1 = BitVec.ofBool s.ovf ∧
    (readHost s 0x001).extractLsb' 9 1 = BitVec.ofBool s.badcrc ∧
    (readHost s 0x001).extractLsb' 10 1 = BitVec.ofBool s.short ∧
    (readHost s 0x001).extractLsb' 11 1 = BitVec.ofBool s.badlen ∧
    (readHost s 0x001).extractLsb' 12 1 = BitVec.ofBool s.cmderr ∧
    (readHost s 0x001).extractLsb' 13 3 = (if s.cmdcause = .none then 0 else if s.cmdcause = .busy then 1
      else if s.cmdcause = .illfn then 2 else if s.cmdcause = .cfg then 3 else 4) ∧
    (readHost s 0x001).extractLsb' 16 8 = s.fn ∧
    (readHost s 0x001).extractLsb' 24 8 = 0 ∧
    ∀ data, exec (.hwr 0x001 data) s = .next s

/-- R51: the fields of `RHEAD`, 0 without a result; a write to its index is ignored. -/
def Obligations.RheadShowsTheParsedFrameHeader : Prop :=
  ∀ s : State,
    (s.rcode = .ok →
      (readHost s 0x008).extractLsb' 0 8 = s.rstation ∧ (readHost s 0x008).extractLsb' 8 8 = s.rfunc ∧
      (readHost s 0x008).extractLsb' 16 8 = s.rbytes ∧ (readHost s 0x008).extractLsb' 24 7 = s.rcount ∧
      (readHost s 0x008).extractLsb' 31 1 = 0) ∧
    (s.rcode ≠ .ok → readHost s 0x008 = 0) ∧
    ∀ data, exec (.hwr 0x008 data) s = .next s

/-- R262: what a host write does at every index. -/
def Obligations.HostWritesFollowTheIndexMap : Prop :=
  ∀ (s : State) (idx : HostIndex) (data : HostData),
    (idx.toNat = 0x00 → exec (.hwr idx data) s = .next (startCommand (data.setWidth 8) s)) ∧
    (s.phase ≠ .idle → idx.toNat ≠ 0x00 → exec (.hwr idx data) s = .next s) ∧
    (s.phase = .idle →
      (idx.toNat = 0x02 → exec (.hwr idx data) s = .next { s with bauddiv := data.setWidth 16 }) ∧
      (idx.toNat = 0x04 → exec (.hwr idx data) s = .next { s with respto := data }) ∧
      (idx.toNat = 0x05 → exec (.hwr idx data) s = .next { s with station := data.setWidth 8 }) ∧
      (idx.toNat = 0x06 → exec (.hwr idx data) s = .next { s with addr := data.setWidth 16 }) ∧
      (idx.toNat = 0x07 → exec (.hwr idx data) s = .next { s with count := data.setWidth 16 }) ∧
      (idx.toNat = 0x09 → exec (.hwr idx data) s = .next { s with done := false, rcode := .none }) ∧
      (∀ i : Fin 127, idx.toNat = 0x80 + i.val → ∃ w : Vector Word 127,
        exec (.hwr idx data) s = .next { s with pword := w } ∧
        ∀ j : Fin 127, w[j] = if j = i then data.setWidth 16 else s.pword[j]) ∧
      (idx.toNat = 0x01 ∨ idx.toNat = 0x03 ∨ idx.toNat = 0x08 ∨ 0x0A ≤ idx.toNat ∧ idx.toNat ≤ 0x7F ∨ 0xFF ≤ idx.toNat →
        exec (.hwr idx data) s = .next s))

/-- R263: while the block is active every host write but one to `CMD` is ignored, and that one is refused with cause `BUSY`. -/
def Obligations.ActiveBlockLocksHostWrites : Prop :=
  ∀ (s : State) (data : HostData), s.phase ≠ .idle →
    (∀ idx : HostIndex, idx.toNat ≠ 0 → exec (.hwr idx data) s = .next s) ∧
    exec .ack s = .next s ∧
    exec (.hwr 0x000 data) s = .next { s with cmderr := true, cmdcause := .busy }

/-- R265 and R266: the first check that fails gives the cause of a refusal, and nothing else changes. That the rows `START.READ` and
`START.WRITE` perform the refusal of their own function, as `START.REFUSE` does for every other, is the model's reading (assumption 12:
R267 gives `START.READ` the accepted command alone, R124 gives a refused write to `START.REFUSE`). -/
def Obligations.StartIsRefusedWithTheFirstCause : Prop :=
  ∀ (s : State) (fn : Byte) (i : Instr),
    i = .startRead ∧ fn = 0x03 ∨ i = .startWrite ∧ fn = 0x10 ∨ i = .startRefuse fn →
    (s.phase ≠ .idle → exec i s = .next { s with cmderr := true, cmdcause := .busy }) ∧
    (s.phase = .idle → fn ≠ 0x03 ∧ fn ≠ 0x10 → exec i s = .next { s with cmderr := true, cmdcause := .illfn }) ∧
    (s.phase = .idle → fn = 0x03 ∨ fn = 0x10 → s.bauddiv.toNat = 0 ∨ s.respto.toNat = 0 →
      exec i s = .next { s with cmderr := true, cmdcause := .cfg }) ∧
    (s.phase = .idle → fn = 0x10 → 0 < s.bauddiv.toNat → 0 < s.respto.toNat → 127 < s.count.toNat →
      exec i s = .next { s with cmderr := true, cmdcause := .count })

/-- R267 with R265: an accepted `START(3)`, and the request frame it begins. The number of registers is not checked. -/
def Obligations.StartReadBeginsAReadOperation : Prop :=
  ∀ s : State, s.phase = .idle → 0 < s.bauddiv.toNat → 0 < s.respto.toNat →
    ∃ t : State, exec .startRead s = .next t ∧
      t = { s with fn := 0x03, phase := .tx, txi := 0, done := false, rcode := .none, ovf := false, badcrc := false,
                   short := false, badlen := false, cmderr := false, cmdcause := .none, len := 0, asm := .idle, sil := 0,
                   waitc := 0 } ∧
      reqFrame t = encodeReadFrame s.cfg s.station s.addr s.count

/-- R268 with R265: an accepted `START(16)`, and the request frame it begins. -/
def Obligations.StartWriteBeginsAWriteOperation : Prop :=
  ∀ s : State, s.phase = .idle → 0 < s.bauddiv.toNat → 0 < s.respto.toNat → s.count.toNat ≤ 127 →
    ∃ t : State, exec .startWrite s = .next t ∧
      t = { s with fn := 0x10, phase := .tx, txi := 0, done := false, rcode := .none, ovf := false, badcrc := false,
                   short := false, badlen := false, cmderr := false, cmdcause := .none, len := 0, asm := .idle, sil := 0,
                   waitc := 0 } ∧
      reqFrame t = encodeWriteFrame s.cfg s.station s.addr s.count (s.pword.toList.take s.count.toNat)

/-- R269: `ACK` consumes the result; after it `RHEAD` and every `RWORD[i]` read 0; while the block is active it is ignored. -/
def Obligations.AckConsumesTheResult : Prop :=
  ∀ s : State,
    (s.phase = .idle → ∃ t : State, exec .ack s = .next t ∧ t = { s with done := false, rcode := .none } ∧
      readHost t 0x008 = 0 ∧ ∀ idx : HostIndex, 0x100 ≤ idx.toNat → readHost t idx = 0) ∧
    (s.phase ≠ .idle → exec .ack s = .next s)

/-! ## Transmit -/

/-- The model's reading of the two request formats (assumption 9): while `PHASE = TX` the frame's byte `TXI` is on the transmit port;
outside that phase nothing is offered (R154). -/
def Obligations.RequestFramesDriveTheTransmitPort : Prop :=
  ∀ (s : State) (station : Byte) (address count : Word) (words : List Word),
    (s.phase = .tx →
      exec (.reqRead station address count) s = .next { s with out := { s.out with
        txValid := true, txData := (encodeReadFrame s.cfg station address count).getD s.txi.toNat 0 } } ∧
      exec (.reqWrite station address count words) s = .next { s with out := { s.out with
        txValid := true, txData := (encodeWriteFrame s.cfg station address count words).getD s.txi.toNat 0 } }) ∧
    (s.phase ≠ .tx →
      exec (.reqRead station address count) s = .next s ∧ exec (.reqWrite station address count words) s = .next s)

/-- R223: `TX.BYTE` transfers the byte `TXI` and counts; `TX.STALL` offers the same byte and writes no state of the block. -/
def Obligations.TxByteTransfersAndTxStallHolds : Prop :=
  ∀ (s : State) (b : Byte), s.phase = .tx → b = (reqFrame s).getD s.txi.toNat 0 →
    (s.txi.toNat + 1 < reqLen s → exec .txByte s = .next { s with
      txi := s.txi + 1, out := { s.out with txValid := true, txData := b, transferred := some b } }) ∧
    exec .txStall s = .next { s with out := { s.out with txValid := true, txData := b } }

/-- R224: `TX.LAST` transfers the last byte and opens the receive window. -/
def Obligations.TxLastOpensTheReceiveWindow : Prop :=
  ∀ (s : State) (b : Byte), s.phase = .tx → s.txi.toNat + 1 = reqLen s → b = (reqFrame s).getD (reqLen s - 1) 0 →
    exec .txLast s = .next { s with
      phase := .wait, txi := 0, len := 0, asm := .idle, sil := 0, waitc := 0,
      out := { s.out with txValid := true, txData := b, transferred := some b } }

/-- R222: the request frame and its length as functions of the state. -/
def Obligations.RequestFrameFollowsTheFunction : Prop :=
  ∀ s : State,
    (s.fn = 0x03 → exec (.encodeRead s.station s.addr s.count) s = .next { s with result := .bytes (reqFrame s) } ∧ reqLen s = 8) ∧
    (s.fn = 0x10 → exec (.encodeWrite s.station s.addr s.count (s.pword.toList.take s.count.toNat)) s
        = .next { s with result := .bytes (reqFrame s) } ∧ reqLen s = 9 + 2 * s.count.toNat) ∧
    reqLen s = (reqFrame s).length

/-! ## Frame Assembler -/

/-- R172: `RX.BYTE` appends one character: the byte at `LEN` is written and every other byte of the buffer reads as before. -/
def Obligations.RxByteAppendsOneCharacter : Prop :=
  ∀ (s : State) (b : Byte), s.phase = .wait → s.len < s.cfg.maxFrame → Memory.wf s.fb = true →
    ∃ fb : Memory,
      exec (.rxByte b) s = .next { s with fb := fb, len := s.len + 1, asm := .receiving, sil := 0 } ∧
      memRead fb s.len = b ∧ (∀ a, a ≠ s.len → memRead fb a = memRead s.fb a) ∧ Memory.wf fb = true

/-- R173: `RX.DROP` loses the character, sets `OVF` and restarts the silence counter. -/
def Obligations.RxDropLosesTheCharacter : Prop :=
  ∀ s : State, s.phase = .wait → s.len = s.cfg.maxFrame →
    exec .rxDrop s = .next { s with ovf := true, asm := .receiving, sil := 0 }

/-- R153: a character outside `PHASE = WAIT` changes nothing: `RX.DISCARD` leaves the state as it is, and the tick is the tick without
the character. -/
def Obligations.CharactersOutsideWaitAreDiscarded : Prop :=
  ∀ s : State, s.phase ≠ .wait →
    exec .rxDiscard s = .next s ∧
    ∀ (inp : TickInput) (rest : List TickInput) (b : Byte),
      step { s with inputs := { inp with rx := some b } :: rest } = step { s with inputs := { inp with rx := none } :: rest }

/-- R174: `SIL.TICK` counts one tick of silence. -/
def Obligations.SilTickCountsSilence : Prop :=
  ∀ s : State, s.phase = .wait → s.sil.toNat + 1 < 35 * s.bauddiv.toNat →
    ∃ t : State, exec .silTick s = .next t ∧ t = { s with sil := t.sil } ∧ t.sil.toNat = s.sil.toNat + 1

/-- R175: `IDLE.EXPIRE` with an empty buffer, with each discard, and with a valid frame. -/
def Obligations.IdleExpireEndsTheReceiveCycle : Prop :=
  ∀ s : State, s.phase = .wait → 35 * s.bauddiv.toNat ≤ s.sil.toNat + 1 →
    (s.len = 0 → exec .idleExpire s = .next { s with len := 0, asm := .idle, sil := 0 }) ∧
    (0 < s.len → decodeCandidate s.cfg (candidate s) = .shortFrame →
      exec .idleExpire s = .next { s with short := true, len := 0, asm := .idle, sil := 0 }) ∧
    (0 < s.len → decodeCandidate s.cfg (candidate s) = .invalidFrame →
      exec .idleExpire s = .next { s with badcrc := true, len := 0, asm := .idle, sil := 0 }) ∧
    (0 < s.len → decodeCandidate s.cfg (candidate s) = .badLength →
      exec .idleExpire s = .next { s with badlen := true, len := 0, asm := .idle, sil := 0 }) ∧
    (∀ f : ParsedFrame, 0 < s.len → decodeCandidate s.cfg (candidate s) = .ok f →
      exec .idleExpire s = exec (.completeOk f) s ∧ ∃ t : State, exec .idleExpire s = .next t ∧ t.rcode = .ok)

/-- R178: exactly one assembler operation on every tick that starts in `PHASE = WAIT` without reset, none on any other tick; and which
one, by the character, `LEN` and `SIL + 1` (the operation column of R177). A character takes the tick even when the idle timeout is
due on it. -/
def Obligations.AssemblerPerformsExactlyOneOperation : Prop :=
  ∀ (inp : TickInput) (s : State), inp.rst = false →
    ((tickOps inp s).filter isAssemblerOp).length = (if s.phase = .wait then 1 else 0) ∧
    (∀ b, s.phase = .wait → inp.rx = some b → s.len < s.cfg.maxFrame → (tickOps inp s).filter isAssemblerOp = [.rxByte b]) ∧
    (∀ b, s.phase = .wait → inp.rx = some b → s.len = s.cfg.maxFrame → (tickOps inp s).filter isAssemblerOp = [.rxDrop]) ∧
    (s.phase = .wait → inp.rx = none → s.sil.toNat + 1 < 35 * s.bauddiv.toNat →
      (tickOps inp s).filter isAssemblerOp = [.silTick]) ∧
    (s.phase = .wait → inp.rx = none → 35 * s.bauddiv.toNat ≤ s.sil.toNat + 1 →
      (tickOps inp s).filter isAssemblerOp = [.idleExpire])

/-- The model's reading of the response format (assumption 9): at the idle expiry a well-formed response completes the operation with
its station, function, byte-count and words (R113, R244, R272), as `IDLE.EXPIRE` does when the buffer holds its bytes. -/
def Obligations.ResponseFramesCompleteTheOperation : Prop :=
  ∀ (s : State) (f : RespFrame), s.phase = .wait → 35 * s.bauddiv.toNat ≤ s.sil.toNat + 1 → f.wellFormed s.cfg = true →
    (∃ w : Vector Word 127,
      exec (.resp f) s = .next { s with
        phase := .idle, done := true, rcode := .ok, len := 0, asm := .idle, sil := 0, waitc := 0,
        rstation := f.station, rfunc := f.function, rbytes := f.byteCount,
        rcount := BitVec.ofNat 7 (f.byteCount.toNat / 2), rword := w } ∧
      ∀ i : Fin 127, w[i] = if i.val < f.byteCount.toNat / 2
        then f.data.getD (2 * i.val) 0 ++ f.data.getD (2 * i.val + 1) 0 else s.rword[i]) ∧
    (candidate s = encodeRespFrame s.cfg f → exec .idleExpire s = exec (.resp f) s)

/-! ## Session -/

/-- R272: `COMPLETE.OK` stores the Parsed Frame, and the host then reads it whole. -/
def Obligations.CompleteOkStoresTheParsedFrame : Prop :=
  ∀ (s : State) (f : ParsedFrame), s.phase = .wait → f.wellFormed = true →
    ∃ t : State, exec (.completeOk f) s = .next t ∧
      t = { s with
        rstation := f.station, rfunc := f.function, rbytes := f.byteCount, rcount := BitVec.ofNat 7 f.registerCount,
        rword := t.rword, phase := .idle, done := true, rcode := .ok, len := 0, asm := .idle, sil := 0, waitc := 0 } ∧
      t.rcount.toNat = f.registerCount ∧
      (∀ i : Fin 127, f.registerCount ≤ i.val → t.rword[i] = s.rword[i]) ∧
      (∀ i < f.registerCount, readHost t (BitVec.ofNat 9 (0x100 + i)) = (f.values.getD i 0).setWidth 32) ∧
      readHost t 0x008 = 0#1 ++ BitVec.ofNat 7 f.registerCount ++ f.byteCount ++ f.function ++ f.station

/-- R270: `WAIT.TICK` counts one tick of the overall wait. -/
def Obligations.WaitTickCountsTheOverallWait : Prop :=
  ∀ s : State, s.phase = .wait → s.waitc.toNat + 1 < s.respto.toNat →
    ∃ t : State, exec .waitTick s = .next t ∧ t = { s with waitc := t.waitc } ∧ t.waitc.toNat = s.waitc.toNat + 1

/-- R271: `WAIT.EXPIRE` ends the operation with `NoResponse`; no result register is written, `RHEAD` and `RWORD` read 0. -/
def Obligations.WaitExpireEndsWithNoResponse : Prop :=
  ∀ s : State, s.phase = .wait → s.respto.toNat ≤ s.waitc.toNat + 1 →
    ∃ t : State, exec .waitExpire s = .next t ∧
      t = { s with phase := .idle, done := true, rcode := .noresp, len := 0, asm := .idle, sil := 0, waitc := 0 } ∧
      readHost t 0x008 = 0 ∧ ∀ idx : HostIndex, 0x100 ≤ idx.toNat → readHost t idx = 0

/-- R340 with R56: `RESET`. `FB` and `RWORD` take unspecified values; the parameters and the model's record fields stay. That these
last stay is the model's choice (assumptions 3 and 17). -/
def Obligations.ResetTakesTheResetValues : Prop :=
  ∀ s : State, ∃ (fb : Memory) (pword rword : Vector Word 127),
    (∀ i : Fin 127, pword[i] = 0) ∧
    exec .reset s = .next
        { phase := .idle, fn := 0, txi := 0, asm := .idle, len := 0, fb := fb, sil := 0, waitc := 0, bauddiv := 0, respto := 0,
          station := 0, addr := 0, count := 0, pword := pword, done := false, rcode := .none, rstation := 0, rfunc := 0, rbytes := 0,
          rcount := 0, rword := rword, ovf := false, badcrc := false, short := false, badlen := false, cmderr := false,
          cmdcause := .none, cfg := s.cfg, inputs := s.inputs, tick := s.tick, out := s.out, result := s.result }

/-- R56: after reset every host-readable index reads 0. -/
def Obligations.EveryIndexReadsZeroAfterReset : Prop :=
  ∀ (s t : State) (idx : HostIndex), exec .reset s = .next t → readHost t idx = 0

/-! ## The tick -/

/-- A step runs the instruction that the host port decodes to, after the sampling of the inputs and with the tick's phase action; on
a tick in `PHASE = IDLE` with no character it is that instruction alone. The sampling and the record of the ports are the model's
(assumptions 1 and 6). -/
def Obligations.StepRunsTheHostInstruction : Prop :=
  ∀ (s : State) (inp : TickInput) (rest : List TickInput) (i : Instr),
    s.inputs = inp :: rest → inp.rst = false → decode s.cfg (.port inp.host) = .ok i →
    step s = performAll (offerOps s ++ i :: phaseOps inp s) (sampled s) ∧
    (s.phase = .idle → inp.rx = none → step s = exec i (sampled s))

/-- A step in `PHASE = TX` runs the request instruction that the frame of the operation decodes to; with the transmitter not ready
and nothing else presented it is that instruction alone. The reading of the row is the model's (assumption 9). -/
def Obligations.StepRunsTheRequestFrame : Prop :=
  ∀ (s : State) (rest : List TickInput) (i : Instr),
    s.inputs = TickInput.quiet :: rest → s.phase = .tx → decode s.cfg (.request (reqFrame s)) = .ok i →
    step s = exec i (sampled s)

/-- A step at the idle expiry runs the response instruction that the candidate frame decodes to; with nothing else presented it is
that instruction alone. The reading of the row is the model's (assumption 9). -/
def Obligations.StepRunsTheResponseFrame : Prop :=
  ∀ (s : State) (rest : List TickInput) (i : Instr),
    s.inputs = TickInput.quiet :: rest → s.phase = .wait → idleTicksOf s ≤ s.sil.toNat + 1 →
    decode s.cfg (.response (candidate s)) = .ok i →
    step s = exec i (sampled s)

/-- R280: `Step` is total: every state has a next state. -/
def Obligations.StepIsTotal : Prop :=
  ∀ s : State, ∃ t : State, step s = .next t

/-- R55 and the model's canonical forms hold at reset. The parameters and the buffer at reset are the model's (assumptions 3 and 4). -/
def Obligations.BoundaryInvariantHoldsAtReset : Prop :=
  BoundaryInv State.reset

/-- R55: what holds at a tick boundary holds at the next. -/
def Obligations.StepKeepsTheBoundaryInvariant : Prop :=
  ∀ s t : State, BoundaryInv s → step s = .next t → BoundaryInv t

/-- R30: the configuration parameters "are fixed for the life of an instance". That the state carries them is the model's choice
(assumption 3). -/
def Obligations.ParametersNeverChange : Prop :=
  ∀ s t : State, step s = .next t → t.cfg = s.cfg

/-- R36: the transitions of `PHASE` and what each leaves; no other transition exists but reset. -/
def Obligations.PhaseMovesOnlyAsTheSequencerSays : Prop :=
  ∀ s t : State, (currentInput s).rst = false → step s = .next t →
    (s.phase = .idle → t.phase = .idle ∨
      t.phase = .tx ∧ ∃ data, (currentInput s).host = .wr 0x000 data ∧ legality (data.setWidth 8) s = .none) ∧
    (s.phase = .tx → t.phase = .tx ∨
      t.phase = .wait ∧ (currentInput s).txReady = true ∧ s.txi.toNat + 1 = reqLen s) ∧
    (s.phase = .wait → t.phase = .wait ∨ t.phase = .idle ∧ t.done = true ∧ t.rcode ≠ .none)

/-- R94: while `PHASE ≠ IDLE` the operands, the timing registers and the function stay as they stood at the accepted `START`. -/
def Obligations.OperandsStayWhileActive : Prop :=
  ∀ s t : State, s.phase ≠ .idle → (currentInput s).rst = false → step s = .next t →
    t.bauddiv = s.bauddiv ∧ t.respto = s.respto ∧ t.station = s.station ∧ t.addr = s.addr ∧ t.count = s.count ∧
    t.pword = s.pword ∧ t.fn = s.fn ∧ reqFrame t = reqFrame s ∧ idleTicksOf t = idleTicksOf s

/-- R340 and R308: on a tick with `rst = 1` nothing but the reset is performed, whatever else is presented; nothing is read and no byte
is transferred; the outputs show the state before the tick (R154, R157). The next inputs stand in the model's queue (assumption 1). -/
def Obligations.ResetWinsOverTheWholeTick : Prop :=
  ∀ (s : State) (inp : TickInput) (rest : List TickInput), s.inputs = inp :: rest → inp.rst = true →
    ∃ t : State, step s = .next t ∧ exec .reset t = .next t ∧ t.cfg = s.cfg ∧ t.inputs = rest ∧
      t.out.hRdata = 0 ∧ t.out.transferred = none ∧ t.out.doneO = s.done ∧ (t.out.busyO = true ↔ s.phase ≠ .idle) ∧
      (t.out.txValid = true ↔ s.phase = .tx)

/-- R90: a host read changes nothing but the value on the read port. The inputs stand in the model's queue (assumption 1). -/
def Obligations.HostReadsHaveNoSideEffect : Prop :=
  ∀ (s : State) (inp : TickInput) (rest : List TickInput) (idx : HostIndex) (t u : State),
    step { s with inputs := { inp with host := .rd idx } :: rest } = .next t →
    step { s with inputs := { inp with host := .none } :: rest } = .next u →
    t = { u with out := { u.out with hRdata := t.out.hRdata } } ∧ u.out.hRdata = 0 ∧
    (inp.rst = false → t.out.hRdata = readHost s idx) ∧ (inp.rst = true → t.out.hRdata = 0)

/-- R154: `tx_ready` is ignored when `PHASE ≠ TX`, and the transmit outputs are functions of the state alone. R157: so are the status
outputs, on every tick, reset or not: `done_o = DONE` and `busy_o = (PHASE ≠ IDLE)` of the state before the tick. R340: on a tick
with reset no byte is transferred. The inputs stand in the model's queue, the outputs of the tick in its record (assumptions 1 and 6). -/
def Obligations.TxReadyMattersOnlyWhileTransmitting : Prop :=
  ∀ (s : State) (inp : TickInput) (rest : List TickInput) (t : State),
    (s.phase ≠ .tx →
      step { s with inputs := { inp with txReady := true } :: rest } = step { s with inputs := { inp with txReady := false } :: rest }) ∧
    (s.inputs = inp :: rest → step s = .next t → BoundaryInv s →
      (t.out.txValid = true ↔ s.phase = .tx) ∧
      t.out.txData = (if s.phase = .tx then (reqFrame s).getD s.txi.toNat 0 else 0) ∧
      (t.out.transferred = if s.phase = .tx ∧ inp.txReady = true ∧ inp.rst = false then some t.out.txData else none)) ∧
    (step s = .next t → t.out.doneO = s.done ∧ (t.out.busyO = true ↔ s.phase ≠ .idle))

/-- R271 (a) and (c), R308: on the last tick of the overall wait a valid frame wins, and a discard both sets its flag and ends the
operation with `NoResponse`. The inputs stand in the model's queue (assumption 1). -/
def Obligations.ValidFrameWinsTheTieWithTheOverallWait : Prop :=
  ∀ (s : State) (inp : TickInput) (rest : List TickInput),
    s.inputs = inp :: rest → inp.rst = false → inp.rx = none → s.phase = .wait → 0 < s.len →
    idleTicksOf s ≤ s.sil.toNat + 1 → s.respto.toNat ≤ s.waitc.toNat + 1 →
    ∃ t : State, step s = .next t ∧ t.phase = .idle ∧ t.done = true ∧ t.len = 0 ∧ t.asm = .idle ∧
      ((∃ f, decodeCandidate s.cfg (candidate s) = .ok f) → t.rcode = .ok ∧ t.badcrc = s.badcrc) ∧
      (decodeCandidate s.cfg (candidate s) = .invalidFrame → t.rcode = .noresp ∧ t.badcrc = true) ∧
      (decodeCandidate s.cfg (candidate s) = .shortFrame → t.rcode = .noresp ∧ t.short = true) ∧
      (decodeCandidate s.cfg (candidate s) = .badLength → t.rcode = .noresp ∧ t.badlen = true)

/-- R48: a diagnostic flag that is set stays set on every tick but a reset and an accepted `START`. -/
def Obligations.DiagnosticFlagsAreSticky : Prop :=
  ∀ s t : State, (currentInput s).rst = false → step s = .next t → ¬ (s.phase = .idle ∧ t.phase = .tx) →
    (s.ovf = true → t.ovf = true) ∧ (s.badcrc = true → t.badcrc = true) ∧ (s.short = true → t.short = true) ∧
    (s.badlen = true → t.badlen = true)

/-! ## Many ticks -/

/-- R155 and R357: with the transmitter always ready the request's bytes leave in index order, one a tick, each once, whatever the host
and the receiver do; the receive window opens after the last. The inputs of the ticks stand in the model's queue, which the run uses
up to `rest` (assumption 1). Ticks on which the transmitter is not ready are the subject of `TxByteTransfersAndTxStallHolds` and
`TxReadyMattersOnlyWhileTransmitting`. -/
def Obligations.RequestBytesLeaveInOrder : Prop :=
  ∀ (s : State) (l rest : List TickInput),
    BoundaryInv s → s.phase = .tx → s.txi = 0 → s.inputs = l ++ rest → l.length = reqLen s →
    (∀ inp ∈ l, inp.rst = false ∧ inp.txReady = true) →
    (∀ j < reqLen s, ∃ t : State, runTicks (j + 1) s = .next t ∧ t.out.transferred = some ((reqFrame s).getD j 0)) ∧
    ∃ t : State, runTicks (reqLen s) s = .next t ∧ t.phase = .wait ∧ t.len = 0 ∧ t.sil = 0 ∧ t.waitc = 0 ∧ t.inputs = rest

/-- R180, the framing law: characters spaced by fewer than `IDLETK` silent ticks and followed by `IDLETK` silent ticks make exactly one
hand-over to `DECODE`, on the last of those ticks, of exactly those characters. `spaced` holds for each further character the silent
ticks before it. The inputs of the ticks stand in the model's queue (assumption 1). -/
def Obligations.SpacedCharactersMakeOneCandidateFrame : Prop :=
  ∀ (s : State) (l rest : List TickInput) (first : Byte) (spaced : List (Nat × Byte)),
    BoundaryInv s → s.phase = .wait → s.len = 0 → s.inputs = l ++ rest → (∀ inp ∈ l, inp.rst = false) →
    l.map (·.rx) = some first :: (spaced.flatMap fun p => List.replicate p.1 none ++ [some p.2])
      ++ List.replicate (idleTicksOf s) none →
    spaced.length + 1 ≤ s.cfg.maxFrame → (∀ p ∈ spaced, p.1 < idleTicksOf s) → s.waitc.toNat + l.length ≤ s.respto.toNat →
    (∃ t : State, runTicks (l.length - 1) s = .next t ∧ t.phase = .wait ∧ candidate t = first :: spaced.map (·.2) ∧
      assemblerOp (currentInput t) t = .idleExpire) ∧
    ∀ j < l.length - 1, ∃ t : State, runTicks j s = .next t ∧ t.phase = .wait ∧ assemblerOp (currentInput t) t ≠ .idleExpire

/-- R275 with R270 and R271: an operation in `PHASE = WAIT` ends within the ticks that its overall wait leaves, with a completion
record, whatever is received. The inputs of the ticks stand in the model's queue (assumption 1). -/
def Obligations.WaitEndsWithinItsBound : Prop :=
  ∀ (s : State) (l rest : List TickInput),
    BoundaryInv s → s.phase = .wait → s.inputs = l ++ rest → l.length = s.respto.toNat - s.waitc.toNat →
    (∀ inp ∈ l, inp.rst = false) →
    ∃ (n : Nat) (t : State), n ≤ l.length ∧ runTicks n s = .next t ∧ t.phase = .idle ∧ t.done = true ∧
      (t.rcode = .ok ∨ t.rcode = .noresp)

/-- R56, R33 and R41: the bytes of `FB` at and above `LEN` and the result words the gate hides cannot be observed: states that differ in
nothing else show the same ports and stay so. -/
def Obligations.UnspecifiedArraysCannotBeObserved : Prop :=
  ∀ s t s' : State, SameVisible s t → Memory.wf s.fb = true → Memory.wf t.fb = true → step s = .next s' →
    ∃ t' : State, step t = .next t' ∧ t'.out = s'.out ∧ SameVisible s' t' ∧ ∀ idx, readHost t' idx = readHost s' idx

/-- R177: what a tick of `PHASE = WAIT` leaves in `ASM`, `LEN` and `SIL`, in the buffer (R172 to R175) and in `OVF`, for each row of the
transition table. The premise on `WAITC` leaves out the tick that uses up the overall wait, whose `WAIT.EXPIRE` empties the assembler
after the row (R271). -/
def Obligations.WaitTicksFollowTheTransitionTable : Prop :=
  ∀ s : State, BoundaryInv s → s.phase = .wait → (currentInput s).rst = false → s.waitc.toNat + 1 < s.respto.toNat →
    ∃ t : State, step s = .next t ∧
      (∀ b, (currentInput s).rx = some b → s.len < s.cfg.maxFrame →
        t.asm = .receiving ∧ t.len = s.len + 1 ∧ (s.asm = .idle → t.len = 1) ∧ t.sil = 0 ∧
        candidate t = candidate s ++ [b] ∧ t.ovf = s.ovf) ∧
      (∀ b, (currentInput s).rx = some b → s.len = s.cfg.maxFrame →
        t.asm = .receiving ∧ t.len = s.len ∧ t.sil = 0 ∧ candidate t = candidate s ∧ t.ovf = true) ∧
      ((currentInput s).rx = none → s.sil.toNat + 1 < 35 * s.bauddiv.toNat →
        t.asm = s.asm ∧ t.len = s.len ∧ t.sil.toNat = s.sil.toNat + 1 ∧ candidate t = candidate s ∧ t.ovf = s.ovf) ∧
      ((currentInput s).rx = none → 35 * s.bauddiv.toNat ≤ s.sil.toNat + 1 →
        t.asm = .idle ∧ t.len = 0 ∧ t.sil = 0 ∧ t.ovf = s.ovf)
end

