-- ==== Sys2Proof/Laws/Codec.lean ====
section
/-! SUPPORT. The laws of byte splits and joins, of the frame lengths and of the idle timeout. -/

namespace Sys2Proof.Machine

/-- Splitting a word and joining its bytes gives it back (spec/30_encoding.md R114). -/
@[simp] theorem joinBytes_split (v : Word) : joinBytes (hiByte v) (loByte v) = v := by
  simp only [joinBytes, hiByte, loByte]
  ext i hi
  simp only [BitVec.getElem_append, BitVec.getElem_extractLsb']
  split
  · simp [BitVec.getLsbD_eq_getElem hi]
  · rw [show 8 + (i - 8) = i by omega, BitVec.getLsbD_eq_getElem hi]

@[simp] theorem hiByte_joinBytes (h l : Byte) : hiByte (joinBytes h l) = h := by
  simp only [joinBytes, hiByte]
  ext i hi
  rw [BitVec.getElem_extractLsb', show (h ++ l).getLsbD (8 + i) = _ from BitVec.getLsbD_append]
  simp [BitVec.getLsbD_eq_getElem hi]

@[simp] theorem loByte_joinBytes (h l : Byte) : loByte (joinBytes h l) = l := by
  simp only [joinBytes, loByte]
  ext i hi
  rw [BitVec.getElem_extractLsb', Nat.zero_add, show (h ++ l).getLsbD i = _ from BitVec.getLsbD_append]
  simp [hi]

/-- `{b0, b1} = b0 × 256 + b1` (spec/20_memory.md R85). -/
theorem joinBytes_toNat (h l : Byte) : (joinBytes h l).toNat = h.toNat * 256 + l.toNat := by
  have := l.isLt
  simp only [joinBytes, BitVec.toNat_append, Nat.shiftLeft_eq]
  rw [Nat.mul_comm, show 2 ^ 8 = 256 from rfl, ← show 2 ^ 8 = 256 from rfl, Nat.two_pow_add_eq_or_of_lt this,
    Nat.mul_comm]

@[simp] theorem withTxCrc_length (cfg : Config) (body : List Byte) : (withTxCrc cfg body).length = body.length + 2 := by
  simp [withTxCrc]

@[simp] theorem withRxCrc_length (cfg : Config) (body : List Byte) : (withRxCrc cfg body).length = body.length + 2 := by
  unfold withRxCrc
  split <;> simp

@[simp] theorem dataBytes_length (count : Nat) (words : List Word) : (dataBytes count words).length = 2 * count := by
  simp [dataBytes, Nat.mul_comm]

@[simp] theorem requestHeader_length (station fn : Byte) (address count : Word) :
    (requestHeader station fn address count).length = 6 := rfl

/-- A read request has 8 bytes (spec/43_request_encoder.md R220). -/
@[simp] theorem encodeReadFrame_length (cfg : Config) (station : Byte) (address count : Word) :
    (encodeReadFrame cfg station address count).length = 8 := by
  simp [encodeReadFrame]

/-- A write request has `9 + 2 × count` bytes (R221). -/
@[simp] theorem encodeWriteFrame_length (cfg : Config) (station : Byte) (address count : Word) (words : List Word) :
    (encodeWriteFrame cfg station address count words).length = 9 + 2 * count.toNat := by
  simp [encodeWriteFrame]; omega

@[simp] theorem encodeRespFrame_length (cfg : Config) (f : RespFrame) :
    (encodeRespFrame cfg f).length = f.data.length + 5 := by
  simp [encodeRespFrame]

/-- The product does not overflow 22 bits (spec/10_state.md R45). -/
theorem idleTicks_toNat (bauddiv : Word) : (idleTicks bauddiv).toNat = 35 * bauddiv.toNat := by
  have := bauddiv.isLt
  simp only [idleTicks, idleBits, BitVec.toNat_mul, BitVec.toNat_ofNat, BitVec.toNat_setWidth]
  rw [Nat.mod_eq_of_lt (show 35 < 2 ^ 22 by decide), Nat.mod_eq_of_lt (show bauddiv.toNat < 2 ^ 22 by omega)]
  omega

/-- The register after `m ++ n` is the register after `n` from the register after `m` (spec/42_crc16.md R202). -/
theorem crcFold_append (cfg : Config) (c : Word) (m n : List Byte) :
    crcFold cfg c (m ++ n) = crcFold cfg (crcFold cfg c m) n := by
  simp [crcFold]

@[simp] theorem crcFold_nil (cfg : Config) (c : Word) : crcFold cfg c [] = c := rfl

@[simp] theorem crcFold_cons (cfg : Config) (c : Word) (b : Byte) (m : List Byte) :
    crcFold cfg c (b :: m) = crcFold cfg (crcByte cfg c b) m := rfl

/-- What `DECODE` can answer, in the order of its checks (spec/44_response_decoder.md R245). -/
theorem decodeCandidate_cases (cfg : Config) (buf : List Byte) :
    (buf.length < 5 ∧ decodeCandidate cfg buf = .shortFrame) ∨
    (5 ≤ buf.length ∧ crcOf cfg (buf.take (buf.length - 2)) ≠ carriedCrc cfg buf ∧ decodeCandidate cfg buf = .invalidFrame) ∨
    (5 ≤ buf.length ∧ crcOf cfg (buf.take (buf.length - 2)) = carriedCrc cfg buf ∧
      buf.length - 2 < 3 + (buf.getD 2 0).toNat ∧ decodeCandidate cfg buf = .badLength) ∨
    (5 ≤ buf.length ∧ crcOf cfg (buf.take (buf.length - 2)) = carriedCrc cfg buf ∧
      3 + (buf.getD 2 0).toNat ≤ buf.length - 2 ∧ decodeCandidate cfg buf = .ok (projectFrame buf)) := by
  unfold decodeCandidate verifyCrc minFrame
  by_cases h₁ : buf.length < 5
  · exact .inl ⟨h₁, if_pos h₁⟩
  · by_cases h₂ : crcOf cfg (buf.take (buf.length - 2)) = carriedCrc cfg buf
    · by_cases h₃ : buf.length - 2 < 3 + (buf.getD 2 0).toNat
      · exact .inr (.inr (.inl ⟨by omega, h₂, h₃, by simp only [h₁, h₂, h₃, if_false, if_true, decide_true, Bool.true_eq_false]⟩))
      · exact .inr (.inr (.inr ⟨by omega, h₂, by omega,
          by simp only [h₁, h₂, h₃, if_false, decide_true, Bool.true_eq_false]⟩))
    · exact .inr (.inl ⟨by omega, h₂, by simp only [h₁, h₂, if_false, if_true, decide_false]⟩)

/-- A frame that `DECODE` accepts is its projection. -/
theorem decodeCandidate_ok {cfg : Config} {buf : List Byte} {f : ParsedFrame} (h : decodeCandidate cfg buf = .ok f) :
    f = projectFrame buf ∧ 5 ≤ buf.length ∧ crcOf cfg (buf.take (buf.length - 2)) = carriedCrc cfg buf ∧
      3 + (buf.getD 2 0).toNat ≤ buf.length - 2 := by
  rcases decodeCandidate_cases cfg buf with ⟨_, h'⟩ | ⟨_, _, h'⟩ | ⟨_, _, _, h'⟩ | ⟨h₁, h₂, h₃, h'⟩ <;> rw [h'] at h
  · cases h
  · cases h
  · cases h
  · exact ⟨(Decoded.ok.inj h).symm, h₁, h₂, h₃⟩

/-- Word `i` of the projection (R244). -/
theorem projectWords_getD (buf : List Byte) {n i : Nat} (h : i < n) :
    (projectWords buf n).getD i 0 = joinBytes (buf.getD (3 + 2 * i) 0) (buf.getD (4 + 2 * i) 0) := by
  rw [projectWords, List.getD_eq_getElem?_getD]; simp [h]

/-- The two bytes of data word `i` (spec/43_request_encoder.md R221). -/
theorem dataBytes_getD (words : List Word) {n i : Nat} (h : i < n) :
    (dataBytes n words).getD (2 * i) 0 = hiByte (words.getD i 0) ∧ (dataBytes n words).getD (2 * i + 1) 0 = loByte (words.getD i 0) := by
  induction n with
  | zero => omega
  | succ n ih =>
    have e : dataBytes (n + 1) words = dataBytes n words ++ [hiByte (words.getD n 0), loByte (words.getD n 0)] := by
      simp [dataBytes, List.range_succ]
    rw [e]
    simp only [List.getD_eq_getElem?_getD] at ih ⊢
    by_cases h' : i < n
    · rw [List.getElem?_append_left (by simp; omega), List.getElem?_append_left (by simp; omega)]
      exact ih h'
    · have : i = n := by omega
      subst this
      rw [List.getElem?_append_right (by simp), List.getElem?_append_right (by simp)]
      simp

/-- A response built with its checksum carries that checksum, whichever byte comes first (spec/20_memory.md R87). -/
theorem carriedCrc_withRxCrc (cfg : Config) (body : List Byte) : carriedCrc cfg (withRxCrc cfg body) = crcOf cfg body := by
  unfold carriedCrc rxCrcOf
  rw [withRxCrc_length, show body.length + 2 - 2 = body.length by omega, show body.length + 2 - 1 = body.length + 1 by omega]
  unfold withRxCrc
  split <;> simp [List.getD_eq_getElem?_getD, splitCrc]

end Sys2Proof.Machine
end

