-- ==== Sys2Proof/Laws/Memory.lean ====
section
/-! SUPPORT. The laws of the frame buffer: read after write, and that every operation keeps the canonical form. -/

namespace Sys2Proof.Machine

@[simp] theorem memRead_nil (a : Nat) : memRead [] a = unlistedByte := rfl

@[simp] theorem memWf_nil : Memory.wf [] = true := rfl

/-- The canonical form of a non-empty list. -/
theorem memWf_cons (c : Host.Cell) (m : Memory) :
    Memory.wf (c :: m) = true ↔ c.2 ≠ unlistedByte ∧ (∀ d ∈ m, c.1 < d.1) ∧ Memory.wf m = true := by
  simp [Memory.wf, and_assoc]

/-- What lies below a canonical list's first address lies below all of them. -/
theorem below_cons {a k : Nat} {v : Byte} {m : Memory} (h : a < k) (hlt : ∀ d ∈ m, k < d.1) :
    ∀ d ∈ ((k, v) : Host.Cell) :: m, a < d.1 := by
  intro d hd
  rcases List.mem_cons.1 hd with rfl | hd
  · exact h
  · exact Nat.lt_trans h (hlt d hd)

/-- An address below every listed one reads as unlisted. -/
theorem memRead_below {m : Memory} {a : Nat} (h : ∀ d ∈ m, a < d.1) : memRead m a = unlistedByte := by
  induction m with
  | nil => rfl
  | cons c m ih =>
    have hc := h c (by simp)
    simp only [memRead, Nat.ne_of_gt hc, if_false]
    exact ih fun d hd => h d (by simp [hd])

theorem memCons_wf {a : Nat} {b : Byte} {m : Memory} (hm : Memory.wf m = true) (h : ∀ d ∈ m, a < d.1) :
    Memory.wf (memCons a b m) = true := by
  unfold memCons
  split
  · exact hm
  · exact (memWf_cons _ _).2 ⟨by assumption, h, hm⟩

theorem memRead_memCons_same {a : Nat} {b : Byte} {m : Memory} (h : ∀ d ∈ m, a < d.1) :
    memRead (memCons a b m) a = b := by
  unfold memCons
  split
  · next hb => rw [memRead_below h, hb]
  · simp [memRead]

theorem memRead_memCons_ne {a k : Nat} {b : Byte} (m : Memory) (h : k ≠ a) :
    memRead (memCons a b m) k = memRead m k := by
  unfold memCons
  split
  · rfl
  · simp [memRead, Ne.symm h]

theorem memCons_mem {a : Nat} {b : Byte} {m : Memory} {d : Host.Cell} (h : d ∈ memCons a b m) : d.1 = a ∨ d ∈ m := by
  unfold memCons at h
  split at h
  · exact .inr h
  · rcases List.mem_cons.1 h with rfl | h
    · exact .inl rfl
    · exact .inr h

/-- A write lists nothing but the written address and what was listed. -/
theorem memWrite_mem {m : Memory} {a : Nat} {b : Byte} {d : Host.Cell} (h : d ∈ memWrite m a b) : d.1 = a ∨ d ∈ m := by
  induction m with
  | nil => exact memCons_mem h
  | cons c m ih =>
    obtain ⟨k, v⟩ := c
    simp only [memWrite] at h
    split at h
    · exact memCons_mem h
    · split at h
      · rcases memCons_mem h with h | h
        · exact .inl h
        · exact .inr (by simp [h])
      · rcases List.mem_cons.1 h with rfl | h
        · exact .inr (by simp)
        · rcases ih h with h | h
          · exact .inl h
          · exact .inr (by simp [h])

/-- A write keeps the canonical form. -/
theorem memWrite_wf {m : Memory} (a : Nat) (b : Byte) (hm : Memory.wf m = true) : Memory.wf (memWrite m a b) = true := by
  induction m with
  | nil => exact memCons_wf rfl (by simp)
  | cons c m ih =>
    obtain ⟨k, v⟩ := c
    obtain ⟨hv, hlt, hr⟩ := (memWf_cons _ _).1 hm
    simp only [memWrite]
    split
    · next h => exact memCons_wf hm (below_cons h hlt)
    · split
      · next h => exact memCons_wf hr fun d hd => by rw [h]; exact hlt d hd
      · next h₁ h₂ =>
        refine (memWf_cons _ _).2 ⟨hv, fun d hd => ?_, ih hr⟩
        rcases memWrite_mem hd with h | h
        · simp only [h]; omega
        · exact hlt d h

/-- Reading back what was written. -/
theorem memRead_memWrite_same {m : Memory} (a : Nat) (b : Byte) (hm : Memory.wf m = true) : memRead (memWrite m a b) a = b := by
  induction m with
  | nil => exact memRead_memCons_same (by simp)
  | cons c m ih =>
    obtain ⟨k, v⟩ := c
    obtain ⟨-, hlt, hr⟩ := (memWf_cons _ _).1 hm
    simp only [memWrite]
    split
    · next h => exact memRead_memCons_same (below_cons h hlt)
    · split
      · next h => exact memRead_memCons_same fun d hd => by rw [h]; exact hlt d hd
      · next h₁ h₂ => simp only [memRead, Ne.symm h₂, if_false]; exact ih hr

/-- A write leaves every other address alone. -/
theorem memRead_memWrite_ne (m : Memory) {a k : Nat} (b : Byte) (h : k ≠ a) : memRead (memWrite m a b) k = memRead m k := by
  induction m with
  | nil => exact memRead_memCons_ne _ h
  | cons c m ih =>
    obtain ⟨k', v⟩ := c
    simp only [memWrite]
    split
    · exact memRead_memCons_ne _ h
    · split
      · next h' => rw [memRead_memCons_ne _ h]; simp [memRead, ← h', Ne.symm h]
      · simp only [memRead, ih]

/-- The canonical form is canonical: memories that read alike are equal. -/
theorem mem_ext {m n : Memory} (hm : Memory.wf m = true) (hn : Memory.wf n = true) (h : ∀ a, memRead m a = memRead n a) :
    m = n := by
  induction m generalizing n with
  | nil =>
    cases n with
    | nil => rfl
    | cons d n => exact absurd (by simpa [memRead] using (h d.1).symm) ((memWf_cons _ _).1 hn).1
  | cons c m ih =>
    obtain ⟨hc, hclt, hmr⟩ := (memWf_cons _ _).1 hm
    cases n with
    | nil => exact absurd (by simpa [memRead] using h c.1) hc
    | cons d n =>
      obtain ⟨hd, hdlt, hnr⟩ := (memWf_cons _ _).1 hn
      obtain ⟨k, v⟩ := c
      obtain ⟨l, w⟩ := d
      have key : k = l := by
        rcases Nat.lt_trichotomy k l with hkl | hkl | hkl
        · refine absurd ?_ hc
          have := h k
          rwa [memRead_below (below_cons hkl hdlt), show memRead ((k, v) :: m) k = v by simp [memRead]] at this
        · exact hkl
        · refine absurd ?_ hd
          have := h l
          rw [memRead_below (below_cons hkl hclt), show memRead ((l, w) :: n) l = w by simp [memRead]] at this
          exact this.symm
      subst key
      have hv : v = w := by simpa [memRead] using h k
      subst hv
      congr 1
      refine ih hmr hnr fun a => ?_
      by_cases ha : k = a
      · subst ha; rw [memRead_below hclt, memRead_below hdlt]
      · simpa [memRead, ha] using h a

/-- A fill keeps the canonical form. -/
theorem memFill_wf {m : Memory} (a : Nat) (bs : List Byte) (hm : Memory.wf m = true) : Memory.wf (memFill m a bs) = true := by
  induction bs generalizing m a with
  | nil => exact hm
  | cons b bs ih => exact ih (a + 1) (memWrite_wf a b hm)

/-- The memory of the reset state has the canonical form. -/
theorem reset_wf : Memory.wf State.reset.fb = true := rfl

end Sys2Proof.Machine
end

