-- ==== Sys2Proof/Laws/State.lean ====
section
/-! SUPPORT. One lemma per field per named update of the state, so that no later proof unfolds a record update. -/

namespace Sys2Proof.Machine

variable (s : State)

/-! `clearAssembler` -/

@[simp] theorem clearAssembler_phase : (clearAssembler s).phase = s.phase := rfl
@[simp] theorem clearAssembler_fn : (clearAssembler s).fn = s.fn := rfl
@[simp] theorem clearAssembler_txi : (clearAssembler s).txi = s.txi := rfl
@[simp] theorem clearAssembler_asm : (clearAssembler s).asm = .idle := rfl
@[simp] theorem clearAssembler_len : (clearAssembler s).len = 0 := rfl
@[simp] theorem clearAssembler_fb : (clearAssembler s).fb = s.fb := rfl
@[simp] theorem clearAssembler_sil : (clearAssembler s).sil = 0 := rfl
@[simp] theorem clearAssembler_waitc : (clearAssembler s).waitc = s.waitc := rfl
@[simp] theorem clearAssembler_bauddiv : (clearAssembler s).bauddiv = s.bauddiv := rfl
@[simp] theorem clearAssembler_respto : (clearAssembler s).respto = s.respto := rfl
@[simp] theorem clearAssembler_station : (clearAssembler s).station = s.station := rfl
@[simp] theorem clearAssembler_addr : (clearAssembler s).addr = s.addr := rfl
@[simp] theorem clearAssembler_count : (clearAssembler s).count = s.count := rfl
@[simp] theorem clearAssembler_pword : (clearAssembler s).pword = s.pword := rfl
@[simp] theorem clearAssembler_done : (clearAssembler s).done = s.done := rfl
@[simp] theorem clearAssembler_rcode : (clearAssembler s).rcode = s.rcode := rfl
@[simp] theorem clearAssembler_rstation : (clearAssembler s).rstation = s.rstation := rfl
@[simp] theorem clearAssembler_rfunc : (clearAssembler s).rfunc = s.rfunc := rfl
@[simp] theorem clearAssembler_rbytes : (clearAssembler s).rbytes = s.rbytes := rfl
@[simp] theorem clearAssembler_rcount : (clearAssembler s).rcount = s.rcount := rfl
@[simp] theorem clearAssembler_rword : (clearAssembler s).rword = s.rword := rfl
@[simp] theorem clearAssembler_ovf : (clearAssembler s).ovf = s.ovf := rfl
@[simp] theorem clearAssembler_badcrc : (clearAssembler s).badcrc = s.badcrc := rfl
@[simp] theorem clearAssembler_short : (clearAssembler s).short = s.short := rfl
@[simp] theorem clearAssembler_badlen : (clearAssembler s).badlen = s.badlen := rfl
@[simp] theorem clearAssembler_cmderr : (clearAssembler s).cmderr = s.cmderr := rfl
@[simp] theorem clearAssembler_cmdcause : (clearAssembler s).cmdcause = s.cmdcause := rfl
@[simp] theorem clearAssembler_cfg : (clearAssembler s).cfg = s.cfg := rfl
@[simp] theorem clearAssembler_inputs : (clearAssembler s).inputs = s.inputs := rfl
@[simp] theorem clearAssembler_tick : (clearAssembler s).tick = s.tick := rfl
@[simp] theorem clearAssembler_out : (clearAssembler s).out = s.out := rfl
@[simp] theorem clearAssembler_result : (clearAssembler s).result = s.result := rfl

/-! `complete` -/

@[simp] theorem complete_phase (c : RCode) : (complete c s).phase = .idle := rfl
@[simp] theorem complete_fn (c : RCode) : (complete c s).fn = s.fn := rfl
@[simp] theorem complete_txi (c : RCode) : (complete c s).txi = s.txi := rfl
@[simp] theorem complete_asm (c : RCode) : (complete c s).asm = .idle := rfl
@[simp] theorem complete_len (c : RCode) : (complete c s).len = 0 := rfl
@[simp] theorem complete_fb (c : RCode) : (complete c s).fb = s.fb := rfl
@[simp] theorem complete_sil (c : RCode) : (complete c s).sil = 0 := rfl
@[simp] theorem complete_waitc (c : RCode) : (complete c s).waitc = 0 := rfl
@[simp] theorem complete_bauddiv (c : RCode) : (complete c s).bauddiv = s.bauddiv := rfl
@[simp] theorem complete_respto (c : RCode) : (complete c s).respto = s.respto := rfl
@[simp] theorem complete_station (c : RCode) : (complete c s).station = s.station := rfl
@[simp] theorem complete_addr (c : RCode) : (complete c s).addr = s.addr := rfl
@[simp] theorem complete_count (c : RCode) : (complete c s).count = s.count := rfl
@[simp] theorem complete_pword (c : RCode) : (complete c s).pword = s.pword := rfl
@[simp] theorem complete_done (c : RCode) : (complete c s).done = true := rfl
@[simp] theorem complete_rcode (c : RCode) : (complete c s).rcode = c := rfl
@[simp] theorem complete_rstation (c : RCode) : (complete c s).rstation = s.rstation := rfl
@[simp] theorem complete_rfunc (c : RCode) : (complete c s).rfunc = s.rfunc := rfl
@[simp] theorem complete_rbytes (c : RCode) : (complete c s).rbytes = s.rbytes := rfl
@[simp] theorem complete_rcount (c : RCode) : (complete c s).rcount = s.rcount := rfl
@[simp] theorem complete_rword (c : RCode) : (complete c s).rword = s.rword := rfl
@[simp] theorem complete_ovf (c : RCode) : (complete c s).ovf = s.ovf := rfl
@[simp] theorem complete_badcrc (c : RCode) : (complete c s).badcrc = s.badcrc := rfl
@[simp] theorem complete_short (c : RCode) : (complete c s).short = s.short := rfl
@[simp] theorem complete_badlen (c : RCode) : (complete c s).badlen = s.badlen := rfl
@[simp] theorem complete_cmderr (c : RCode) : (complete c s).cmderr = s.cmderr := rfl
@[simp] theorem complete_cmdcause (c : RCode) : (complete c s).cmdcause = s.cmdcause := rfl
@[simp] theorem complete_cfg (c : RCode) : (complete c s).cfg = s.cfg := rfl
@[simp] theorem complete_inputs (c : RCode) : (complete c s).inputs = s.inputs := rfl
@[simp] theorem complete_tick (c : RCode) : (complete c s).tick = s.tick := rfl
@[simp] theorem complete_out (c : RCode) : (complete c s).out = s.out := rfl
@[simp] theorem complete_result (c : RCode) : (complete c s).result = s.result := rfl

/-! `acknowledge` -/

@[simp] theorem acknowledge_phase : (acknowledge s).phase = s.phase := rfl
@[simp] theorem acknowledge_fn : (acknowledge s).fn = s.fn := rfl
@[simp] theorem acknowledge_txi : (acknowledge s).txi = s.txi := rfl
@[simp] theorem acknowledge_asm : (acknowledge s).asm = s.asm := rfl
@[simp] theorem acknowledge_len : (acknowledge s).len = s.len := rfl
@[simp] theorem acknowledge_fb : (acknowledge s).fb = s.fb := rfl
@[simp] theorem acknowledge_sil : (acknowledge s).sil = s.sil := rfl
@[simp] theorem acknowledge_waitc : (acknowledge s).waitc = s.waitc := rfl
@[simp] theorem acknowledge_bauddiv : (acknowledge s).bauddiv = s.bauddiv := rfl
@[simp] theorem acknowledge_respto : (acknowledge s).respto = s.respto := rfl
@[simp] theorem acknowledge_station : (acknowledge s).station = s.station := rfl
@[simp] theorem acknowledge_addr : (acknowledge s).addr = s.addr := rfl
@[simp] theorem acknowledge_count : (acknowledge s).count = s.count := rfl
@[simp] theorem acknowledge_pword : (acknowledge s).pword = s.pword := rfl
@[simp] theorem acknowledge_done : (acknowledge s).done = false := rfl
@[simp] theorem acknowledge_rcode : (acknowledge s).rcode = .none := rfl
@[simp] theorem acknowledge_rstation : (acknowledge s).rstation = s.rstation := rfl
@[simp] theorem acknowledge_rfunc : (acknowledge s).rfunc = s.rfunc := rfl
@[simp] theorem acknowledge_rbytes : (acknowledge s).rbytes = s.rbytes := rfl
@[simp] theorem acknowledge_rcount : (acknowledge s).rcount = s.rcount := rfl
@[simp] theorem acknowledge_rword : (acknowledge s).rword = s.rword := rfl
@[simp] theorem acknowledge_ovf : (acknowledge s).ovf = s.ovf := rfl
@[simp] theorem acknowledge_badcrc : (acknowledge s).badcrc = s.badcrc := rfl
@[simp] theorem acknowledge_short : (acknowledge s).short = s.short := rfl
@[simp] theorem acknowledge_badlen : (acknowledge s).badlen = s.badlen := rfl
@[simp] theorem acknowledge_cmderr : (acknowledge s).cmderr = s.cmderr := rfl
@[simp] theorem acknowledge_cmdcause : (acknowledge s).cmdcause = s.cmdcause := rfl
@[simp] theorem acknowledge_cfg : (acknowledge s).cfg = s.cfg := rfl
@[simp] theorem acknowledge_inputs : (acknowledge s).inputs = s.inputs := rfl
@[simp] theorem acknowledge_tick : (acknowledge s).tick = s.tick := rfl
@[simp] theorem acknowledge_out : (acknowledge s).out = s.out := rfl
@[simp] theorem acknowledge_result : (acknowledge s).result = s.result := rfl

/-! `storeFrame` -/

@[simp] theorem storeFrame_phase (f : ParsedFrame) : (storeFrame f s).phase = s.phase := rfl
@[simp] theorem storeFrame_fn (f : ParsedFrame) : (storeFrame f s).fn = s.fn := rfl
@[simp] theorem storeFrame_txi (f : ParsedFrame) : (storeFrame f s).txi = s.txi := rfl
@[simp] theorem storeFrame_asm (f : ParsedFrame) : (storeFrame f s).asm = s.asm := rfl
@[simp] theorem storeFrame_len (f : ParsedFrame) : (storeFrame f s).len = s.len := rfl
@[simp] theorem storeFrame_fb (f : ParsedFrame) : (storeFrame f s).fb = s.fb := rfl
@[simp] theorem storeFrame_sil (f : ParsedFrame) : (storeFrame f s).sil = s.sil := rfl
@[simp] theorem storeFrame_waitc (f : ParsedFrame) : (storeFrame f s).waitc = s.waitc := rfl
@[simp] theorem storeFrame_bauddiv (f : ParsedFrame) : (storeFrame f s).bauddiv = s.bauddiv := rfl
@[simp] theorem storeFrame_respto (f : ParsedFrame) : (storeFrame f s).respto = s.respto := rfl
@[simp] theorem storeFrame_station (f : ParsedFrame) : (storeFrame f s).station = s.station := rfl
@[simp] theorem storeFrame_addr (f : ParsedFrame) : (storeFrame f s).addr = s.addr := rfl
@[simp] theorem storeFrame_count (f : ParsedFrame) : (storeFrame f s).count = s.count := rfl
@[simp] theorem storeFrame_pword (f : ParsedFrame) : (storeFrame f s).pword = s.pword := rfl
@[simp] theorem storeFrame_done (f : ParsedFrame) : (storeFrame f s).done = s.done := rfl
@[simp] theorem storeFrame_rcode (f : ParsedFrame) : (storeFrame f s).rcode = s.rcode := rfl
@[simp] theorem storeFrame_rstation (f : ParsedFrame) : (storeFrame f s).rstation = f.station := rfl
@[simp] theorem storeFrame_rfunc (f : ParsedFrame) : (storeFrame f s).rfunc = f.function := rfl
@[simp] theorem storeFrame_rbytes (f : ParsedFrame) : (storeFrame f s).rbytes = f.byteCount := rfl
@[simp] theorem storeFrame_rcount (f : ParsedFrame) : (storeFrame f s).rcount = BitVec.ofNat 7 f.registerCount := rfl
@[simp] theorem storeFrame_rword (f : ParsedFrame) : (storeFrame f s).rword = Vector.ofFn fun i : Fin 127 => if i.val < f.registerCount then f.values.getD i.val 0 else s.rword[i] := rfl
@[simp] theorem storeFrame_ovf (f : ParsedFrame) : (storeFrame f s).ovf = s.ovf := rfl
@[simp] theorem storeFrame_badcrc (f : ParsedFrame) : (storeFrame f s).badcrc = s.badcrc := rfl
@[simp] theorem storeFrame_short (f : ParsedFrame) : (storeFrame f s).short = s.short := rfl
@[simp] theorem storeFrame_badlen (f : ParsedFrame) : (storeFrame f s).badlen = s.badlen := rfl
@[simp] theorem storeFrame_cmderr (f : ParsedFrame) : (storeFrame f s).cmderr = s.cmderr := rfl
@[simp] theorem storeFrame_cmdcause (f : ParsedFrame) : (storeFrame f s).cmdcause = s.cmdcause := rfl
@[simp] theorem storeFrame_cfg (f : ParsedFrame) : (storeFrame f s).cfg = s.cfg := rfl
@[simp] theorem storeFrame_inputs (f : ParsedFrame) : (storeFrame f s).inputs = s.inputs := rfl
@[simp] theorem storeFrame_tick (f : ParsedFrame) : (storeFrame f s).tick = s.tick := rfl
@[simp] theorem storeFrame_out (f : ParsedFrame) : (storeFrame f s).out = s.out := rfl
@[simp] theorem storeFrame_result (f : ParsedFrame) : (storeFrame f s).result = s.result := rfl

/-! `clearDiagnostics` -/

@[simp] theorem clearDiagnostics_phase : (clearDiagnostics s).phase = s.phase := rfl
@[simp] theorem clearDiagnostics_fn : (clearDiagnostics s).fn = s.fn := rfl
@[simp] theorem clearDiagnostics_txi : (clearDiagnostics s).txi = s.txi := rfl
@[simp] theorem clearDiagnostics_asm : (clearDiagnostics s).asm = s.asm := rfl
@[simp] theorem clearDiagnostics_len : (clearDiagnostics s).len = s.len := rfl
@[simp] theorem clearDiagnostics_fb : (clearDiagnostics s).fb = s.fb := rfl
@[simp] theorem clearDiagnostics_sil : (clearDiagnostics s).sil = s.sil := rfl
@[simp] theorem clearDiagnostics_waitc : (clearDiagnostics s).waitc = s.waitc := rfl
@[simp] theorem clearDiagnostics_bauddiv : (clearDiagnostics s).bauddiv = s.bauddiv := rfl
@[simp] theorem clearDiagnostics_respto : (clearDiagnostics s).respto = s.respto := rfl
@[simp] theorem clearDiagnostics_station : (clearDiagnostics s).station = s.station := rfl
@[simp] theorem clearDiagnostics_addr : (clearDiagnostics s).addr = s.addr := rfl
@[simp] theorem clearDiagnostics_count : (clearDiagnostics s).count = s.count := rfl
@[simp] theorem clearDiagnostics_pword : (clearDiagnostics s).pword = s.pword := rfl
@[simp] theorem clearDiagnostics_done : (clearDiagnostics s).done = s.done := rfl
@[simp] theorem clearDiagnostics_rcode : (clearDiagnostics s).rcode = s.rcode := rfl
@[simp] theorem clearDiagnostics_rstation : (clearDiagnostics s).rstation = s.rstation := rfl
@[simp] theorem clearDiagnostics_rfunc : (clearDiagnostics s).rfunc = s.rfunc := rfl
@[simp] theorem clearDiagnostics_rbytes : (clearDiagnostics s).rbytes = s.rbytes := rfl
@[simp] theorem clearDiagnostics_rcount : (clearDiagnostics s).rcount = s.rcount := rfl
@[simp] theorem clearDiagnostics_rword : (clearDiagnostics s).rword = s.rword := rfl
@[simp] theorem clearDiagnostics_ovf : (clearDiagnostics s).ovf = false := rfl
@[simp] theorem clearDiagnostics_badcrc : (clearDiagnostics s).badcrc = false := rfl
@[simp] theorem clearDiagnostics_short : (clearDiagnostics s).short = false := rfl
@[simp] theorem clearDiagnostics_badlen : (clearDiagnostics s).badlen = false := rfl
@[simp] theorem clearDiagnostics_cmderr : (clearDiagnostics s).cmderr = s.cmderr := rfl
@[simp] theorem clearDiagnostics_cmdcause : (clearDiagnostics s).cmdcause = s.cmdcause := rfl
@[simp] theorem clearDiagnostics_cfg : (clearDiagnostics s).cfg = s.cfg := rfl
@[simp] theorem clearDiagnostics_inputs : (clearDiagnostics s).inputs = s.inputs := rfl
@[simp] theorem clearDiagnostics_tick : (clearDiagnostics s).tick = s.tick := rfl
@[simp] theorem clearDiagnostics_out : (clearDiagnostics s).out = s.out := rfl
@[simp] theorem clearDiagnostics_result : (clearDiagnostics s).result = s.result := rfl

/-! `flagShort` -/

@[simp] theorem flagShort_phase : (flagShort s).phase = s.phase := rfl
@[simp] theorem flagShort_fn : (flagShort s).fn = s.fn := rfl
@[simp] theorem flagShort_txi : (flagShort s).txi = s.txi := rfl
@[simp] theorem flagShort_asm : (flagShort s).asm = s.asm := rfl
@[simp] theorem flagShort_len : (flagShort s).len = s.len := rfl
@[simp] theorem flagShort_fb : (flagShort s).fb = s.fb := rfl
@[simp] theorem flagShort_sil : (flagShort s).sil = s.sil := rfl
@[simp] theorem flagShort_waitc : (flagShort s).waitc = s.waitc := rfl
@[simp] theorem flagShort_bauddiv : (flagShort s).bauddiv = s.bauddiv := rfl
@[simp] theorem flagShort_respto : (flagShort s).respto = s.respto := rfl
@[simp] theorem flagShort_station : (flagShort s).station = s.station := rfl
@[simp] theorem flagShort_addr : (flagShort s).addr = s.addr := rfl
@[simp] theorem flagShort_count : (flagShort s).count = s.count := rfl
@[simp] theorem flagShort_pword : (flagShort s).pword = s.pword := rfl
@[simp] theorem flagShort_done : (flagShort s).done = s.done := rfl
@[simp] theorem flagShort_rcode : (flagShort s).rcode = s.rcode := rfl
@[simp] theorem flagShort_rstation : (flagShort s).rstation = s.rstation := rfl
@[simp] theorem flagShort_rfunc : (flagShort s).rfunc = s.rfunc := rfl
@[simp] theorem flagShort_rbytes : (flagShort s).rbytes = s.rbytes := rfl
@[simp] theorem flagShort_rcount : (flagShort s).rcount = s.rcount := rfl
@[simp] theorem flagShort_rword : (flagShort s).rword = s.rword := rfl
@[simp] theorem flagShort_ovf : (flagShort s).ovf = s.ovf := rfl
@[simp] theorem flagShort_badcrc : (flagShort s).badcrc = s.badcrc := rfl
@[simp] theorem flagShort_short : (flagShort s).short = true := rfl
@[simp] theorem flagShort_badlen : (flagShort s).badlen = s.badlen := rfl
@[simp] theorem flagShort_cmderr : (flagShort s).cmderr = s.cmderr := rfl
@[simp] theorem flagShort_cmdcause : (flagShort s).cmdcause = s.cmdcause := rfl
@[simp] theorem flagShort_cfg : (flagShort s).cfg = s.cfg := rfl
@[simp] theorem flagShort_inputs : (flagShort s).inputs = s.inputs := rfl
@[simp] theorem flagShort_tick : (flagShort s).tick = s.tick := rfl
@[simp] theorem flagShort_out : (flagShort s).out = s.out := rfl
@[simp] theorem flagShort_result : (flagShort s).result = s.result := rfl

/-! `flagBadCrc` -/

@[simp] theorem flagBadCrc_phase : (flagBadCrc s).phase = s.phase := rfl
@[simp] theorem flagBadCrc_fn : (flagBadCrc s).fn = s.fn := rfl
@[simp] theorem flagBadCrc_txi : (flagBadCrc s).txi = s.txi := rfl
@[simp] theorem flagBadCrc_asm : (flagBadCrc s).asm = s.asm := rfl
@[simp] theorem flagBadCrc_len : (flagBadCrc s).len = s.len := rfl
@[simp] theorem flagBadCrc_fb : (flagBadCrc s).fb = s.fb := rfl
@[simp] theorem flagBadCrc_sil : (flagBadCrc s).sil = s.sil := rfl
@[simp] theorem flagBadCrc_waitc : (flagBadCrc s).waitc = s.waitc := rfl
@[simp] theorem flagBadCrc_bauddiv : (flagBadCrc s).bauddiv = s.bauddiv := rfl
@[simp] theorem flagBadCrc_respto : (flagBadCrc s).respto = s.respto := rfl
@[simp] theorem flagBadCrc_station : (flagBadCrc s).station = s.station := rfl
@[simp] theorem flagBadCrc_addr : (flagBadCrc s).addr = s.addr := rfl
@[simp] theorem flagBadCrc_count : (flagBadCrc s).count = s.count := rfl
@[simp] theorem flagBadCrc_pword : (flagBadCrc s).pword = s.pword := rfl
@[simp] theorem flagBadCrc_done : (flagBadCrc s).done = s.done := rfl
@[simp] theorem flagBadCrc_rcode : (flagBadCrc s).rcode = s.rcode := rfl
@[simp] theorem flagBadCrc_rstation : (flagBadCrc s).rstation = s.rstation := rfl
@[simp] theorem flagBadCrc_rfunc : (flagBadCrc s).rfunc = s.rfunc := rfl
@[simp] theorem flagBadCrc_rbytes : (flagBadCrc s).rbytes = s.rbytes := rfl
@[simp] theorem flagBadCrc_rcount : (flagBadCrc s).rcount = s.rcount := rfl
@[simp] theorem flagBadCrc_rword : (flagBadCrc s).rword = s.rword := rfl
@[simp] theorem flagBadCrc_ovf : (flagBadCrc s).ovf = s.ovf := rfl
@[simp] theorem flagBadCrc_badcrc : (flagBadCrc s).badcrc = true := rfl
@[simp] theorem flagBadCrc_short : (flagBadCrc s).short = s.short := rfl
@[simp] theorem flagBadCrc_badlen : (flagBadCrc s).badlen = s.badlen := rfl
@[simp] theorem flagBadCrc_cmderr : (flagBadCrc s).cmderr = s.cmderr := rfl
@[simp] theorem flagBadCrc_cmdcause : (flagBadCrc s).cmdcause = s.cmdcause := rfl
@[simp] theorem flagBadCrc_cfg : (flagBadCrc s).cfg = s.cfg := rfl
@[simp] theorem flagBadCrc_inputs : (flagBadCrc s).inputs = s.inputs := rfl
@[simp] theorem flagBadCrc_tick : (flagBadCrc s).tick = s.tick := rfl
@[simp] theorem flagBadCrc_out : (flagBadCrc s).out = s.out := rfl
@[simp] theorem flagBadCrc_result : (flagBadCrc s).result = s.result := rfl

/-! `flagBadLen` -/

@[simp] theorem flagBadLen_phase : (flagBadLen s).phase = s.phase := rfl
@[simp] theorem flagBadLen_fn : (flagBadLen s).fn = s.fn := rfl
@[simp] theorem flagBadLen_txi : (flagBadLen s).txi = s.txi := rfl
@[simp] theorem flagBadLen_asm : (flagBadLen s).asm = s.asm := rfl
@[simp] theorem flagBadLen_len : (flagBadLen s).len = s.len := rfl
@[simp] theorem flagBadLen_fb : (flagBadLen s).fb = s.fb := rfl
@[simp] theorem flagBadLen_sil : (flagBadLen s).sil = s.sil := rfl
@[simp] theorem flagBadLen_waitc : (flagBadLen s).waitc = s.waitc := rfl
@[simp] theorem flagBadLen_bauddiv : (flagBadLen s).bauddiv = s.bauddiv := rfl
@[simp] theorem flagBadLen_respto : (flagBadLen s).respto = s.respto := rfl
@[simp] theorem flagBadLen_station : (flagBadLen s).station = s.station := rfl
@[simp] theorem flagBadLen_addr : (flagBadLen s).addr = s.addr := rfl
@[simp] theorem flagBadLen_count : (flagBadLen s).count = s.count := rfl
@[simp] theorem flagBadLen_pword : (flagBadLen s).pword = s.pword := rfl
@[simp] theorem flagBadLen_done : (flagBadLen s).done = s.done := rfl
@[simp] theorem flagBadLen_rcode : (flagBadLen s).rcode = s.rcode := rfl
@[simp] theorem flagBadLen_rstation : (flagBadLen s).rstation = s.rstation := rfl
@[simp] theorem flagBadLen_rfunc : (flagBadLen s).rfunc = s.rfunc := rfl
@[simp] theorem flagBadLen_rbytes : (flagBadLen s).rbytes = s.rbytes := rfl
@[simp] theorem flagBadLen_rcount : (flagBadLen s).rcount = s.rcount := rfl
@[simp] theorem flagBadLen_rword : (flagBadLen s).rword = s.rword := rfl
@[simp] theorem flagBadLen_ovf : (flagBadLen s).ovf = s.ovf := rfl
@[simp] theorem flagBadLen_badcrc : (flagBadLen s).badcrc = s.badcrc := rfl
@[simp] theorem flagBadLen_short : (flagBadLen s).short = s.short := rfl
@[simp] theorem flagBadLen_badlen : (flagBadLen s).badlen = true := rfl
@[simp] theorem flagBadLen_cmderr : (flagBadLen s).cmderr = s.cmderr := rfl
@[simp] theorem flagBadLen_cmdcause : (flagBadLen s).cmdcause = s.cmdcause := rfl
@[simp] theorem flagBadLen_cfg : (flagBadLen s).cfg = s.cfg := rfl
@[simp] theorem flagBadLen_inputs : (flagBadLen s).inputs = s.inputs := rfl
@[simp] theorem flagBadLen_tick : (flagBadLen s).tick = s.tick := rfl
@[simp] theorem flagBadLen_out : (flagBadLen s).out = s.out := rfl
@[simp] theorem flagBadLen_result : (flagBadLen s).result = s.result := rfl

/-! `flagOverflow` -/

@[simp] theorem flagOverflow_phase : (flagOverflow s).phase = s.phase := rfl
@[simp] theorem flagOverflow_fn : (flagOverflow s).fn = s.fn := rfl
@[simp] theorem flagOverflow_txi : (flagOverflow s).txi = s.txi := rfl
@[simp] theorem flagOverflow_asm : (flagOverflow s).asm = s.asm := rfl
@[simp] theorem flagOverflow_len : (flagOverflow s).len = s.len := rfl
@[simp] theorem flagOverflow_fb : (flagOverflow s).fb = s.fb := rfl
@[simp] theorem flagOverflow_sil : (flagOverflow s).sil = s.sil := rfl
@[simp] theorem flagOverflow_waitc : (flagOverflow s).waitc = s.waitc := rfl
@[simp] theorem flagOverflow_bauddiv : (flagOverflow s).bauddiv = s.bauddiv := rfl
@[simp] theorem flagOverflow_respto : (flagOverflow s).respto = s.respto := rfl
@[simp] theorem flagOverflow_station : (flagOverflow s).station = s.station := rfl
@[simp] theorem flagOverflow_addr : (flagOverflow s).addr = s.addr := rfl
@[simp] theorem flagOverflow_count : (flagOverflow s).count = s.count := rfl
@[simp] theorem flagOverflow_pword : (flagOverflow s).pword = s.pword := rfl
@[simp] theorem flagOverflow_done : (flagOverflow s).done = s.done := rfl
@[simp] theorem flagOverflow_rcode : (flagOverflow s).rcode = s.rcode := rfl
@[simp] theorem flagOverflow_rstation : (flagOverflow s).rstation = s.rstation := rfl
@[simp] theorem flagOverflow_rfunc : (flagOverflow s).rfunc = s.rfunc := rfl
@[simp] theorem flagOverflow_rbytes : (flagOverflow s).rbytes = s.rbytes := rfl
@[simp] theorem flagOverflow_rcount : (flagOverflow s).rcount = s.rcount := rfl
@[simp] theorem flagOverflow_rword : (flagOverflow s).rword = s.rword := rfl
@[simp] theorem flagOverflow_ovf : (flagOverflow s).ovf = true := rfl
@[simp] theorem flagOverflow_badcrc : (flagOverflow s).badcrc = s.badcrc := rfl
@[simp] theorem flagOverflow_short : (flagOverflow s).short = s.short := rfl
@[simp] theorem flagOverflow_badlen : (flagOverflow s).badlen = s.badlen := rfl
@[simp] theorem flagOverflow_cmderr : (flagOverflow s).cmderr = s.cmderr := rfl
@[simp] theorem flagOverflow_cmdcause : (flagOverflow s).cmdcause = s.cmdcause := rfl
@[simp] theorem flagOverflow_cfg : (flagOverflow s).cfg = s.cfg := rfl
@[simp] theorem flagOverflow_inputs : (flagOverflow s).inputs = s.inputs := rfl
@[simp] theorem flagOverflow_tick : (flagOverflow s).tick = s.tick := rfl
@[simp] theorem flagOverflow_out : (flagOverflow s).out = s.out := rfl
@[simp] theorem flagOverflow_result : (flagOverflow s).result = s.result := rfl

/-! `setVerdict` -/

@[simp] theorem setVerdict_phase (e : Bool) (c : Cause) : (setVerdict e c s).phase = s.phase := rfl
@[simp] theorem setVerdict_fn (e : Bool) (c : Cause) : (setVerdict e c s).fn = s.fn := rfl
@[simp] theorem setVerdict_txi (e : Bool) (c : Cause) : (setVerdict e c s).txi = s.txi := rfl
@[simp] theorem setVerdict_asm (e : Bool) (c : Cause) : (setVerdict e c s).asm = s.asm := rfl
@[simp] theorem setVerdict_len (e : Bool) (c : Cause) : (setVerdict e c s).len = s.len := rfl
@[simp] theorem setVerdict_fb (e : Bool) (c : Cause) : (setVerdict e c s).fb = s.fb := rfl
@[simp] theorem setVerdict_sil (e : Bool) (c : Cause) : (setVerdict e c s).sil = s.sil := rfl
@[simp] theorem setVerdict_waitc (e : Bool) (c : Cause) : (setVerdict e c s).waitc = s.waitc := rfl
@[simp] theorem setVerdict_bauddiv (e : Bool) (c : Cause) : (setVerdict e c s).bauddiv = s.bauddiv := rfl
@[simp] theorem setVerdict_respto (e : Bool) (c : Cause) : (setVerdict e c s).respto = s.respto := rfl
@[simp] theorem setVerdict_station (e : Bool) (c : Cause) : (setVerdict e c s).station = s.station := rfl
@[simp] theorem setVerdict_addr (e : Bool) (c : Cause) : (setVerdict e c s).addr = s.addr := rfl
@[simp] theorem setVerdict_count (e : Bool) (c : Cause) : (setVerdict e c s).count = s.count := rfl
@[simp] theorem setVerdict_pword (e : Bool) (c : Cause) : (setVerdict e c s).pword = s.pword := rfl
@[simp] theorem setVerdict_done (e : Bool) (c : Cause) : (setVerdict e c s).done = s.done := rfl
@[simp] theorem setVerdict_rcode (e : Bool) (c : Cause) : (setVerdict e c s).rcode = s.rcode := rfl
@[simp] theorem setVerdict_rstation (e : Bool) (c : Cause) : (setVerdict e c s).rstation = s.rstation := rfl
@[simp] theorem setVerdict_rfunc (e : Bool) (c : Cause) : (setVerdict e c s).rfunc = s.rfunc := rfl
@[simp] theorem setVerdict_rbytes (e : Bool) (c : Cause) : (setVerdict e c s).rbytes = s.rbytes := rfl
@[simp] theorem setVerdict_rcount (e : Bool) (c : Cause) : (setVerdict e c s).rcount = s.rcount := rfl
@[simp] theorem setVerdict_rword (e : Bool) (c : Cause) : (setVerdict e c s).rword = s.rword := rfl
@[simp] theorem setVerdict_ovf (e : Bool) (c : Cause) : (setVerdict e c s).ovf = s.ovf := rfl
@[simp] theorem setVerdict_badcrc (e : Bool) (c : Cause) : (setVerdict e c s).badcrc = s.badcrc := rfl
@[simp] theorem setVerdict_short (e : Bool) (c : Cause) : (setVerdict e c s).short = s.short := rfl
@[simp] theorem setVerdict_badlen (e : Bool) (c : Cause) : (setVerdict e c s).badlen = s.badlen := rfl
@[simp] theorem setVerdict_cmderr (e : Bool) (c : Cause) : (setVerdict e c s).cmderr = e := rfl
@[simp] theorem setVerdict_cmdcause (e : Bool) (c : Cause) : (setVerdict e c s).cmdcause = c := rfl
@[simp] theorem setVerdict_cfg (e : Bool) (c : Cause) : (setVerdict e c s).cfg = s.cfg := rfl
@[simp] theorem setVerdict_inputs (e : Bool) (c : Cause) : (setVerdict e c s).inputs = s.inputs := rfl
@[simp] theorem setVerdict_tick (e : Bool) (c : Cause) : (setVerdict e c s).tick = s.tick := rfl
@[simp] theorem setVerdict_out (e : Bool) (c : Cause) : (setVerdict e c s).out = s.out := rfl
@[simp] theorem setVerdict_result (e : Bool) (c : Cause) : (setVerdict e c s).result = s.result := rfl

/-! `refuseStart` -/

@[simp] theorem refuseStart_phase (c : Cause) : (refuseStart c s).phase = s.phase := rfl
@[simp] theorem refuseStart_fn (c : Cause) : (refuseStart c s).fn = s.fn := rfl
@[simp] theorem refuseStart_txi (c : Cause) : (refuseStart c s).txi = s.txi := rfl
@[simp] theorem refuseStart_asm (c : Cause) : (refuseStart c s).asm = s.asm := rfl
@[simp] theorem refuseStart_len (c : Cause) : (refuseStart c s).len = s.len := rfl
@[simp] theorem refuseStart_fb (c : Cause) : (refuseStart c s).fb = s.fb := rfl
@[simp] theorem refuseStart_sil (c : Cause) : (refuseStart c s).sil = s.sil := rfl
@[simp] theorem refuseStart_waitc (c : Cause) : (refuseStart c s).waitc = s.waitc := rfl
@[simp] theorem refuseStart_bauddiv (c : Cause) : (refuseStart c s).bauddiv = s.bauddiv := rfl
@[simp] theorem refuseStart_respto (c : Cause) : (refuseStart c s).respto = s.respto := rfl
@[simp] theorem refuseStart_station (c : Cause) : (refuseStart c s).station = s.station := rfl
@[simp] theorem refuseStart_addr (c : Cause) : (refuseStart c s).addr = s.addr := rfl
@[simp] theorem refuseStart_count (c : Cause) : (refuseStart c s).count = s.count := rfl
@[simp] theorem refuseStart_pword (c : Cause) : (refuseStart c s).pword = s.pword := rfl
@[simp] theorem refuseStart_done (c : Cause) : (refuseStart c s).done = s.done := rfl
@[simp] theorem refuseStart_rcode (c : Cause) : (refuseStart c s).rcode = s.rcode := rfl
@[simp] theorem refuseStart_rstation (c : Cause) : (refuseStart c s).rstation = s.rstation := rfl
@[simp] theorem refuseStart_rfunc (c : Cause) : (refuseStart c s).rfunc = s.rfunc := rfl
@[simp] theorem refuseStart_rbytes (c : Cause) : (refuseStart c s).rbytes = s.rbytes := rfl
@[simp] theorem refuseStart_rcount (c : Cause) : (refuseStart c s).rcount = s.rcount := rfl
@[simp] theorem refuseStart_rword (c : Cause) : (refuseStart c s).rword = s.rword := rfl
@[simp] theorem refuseStart_ovf (c : Cause) : (refuseStart c s).ovf = s.ovf := rfl
@[simp] theorem refuseStart_badcrc (c : Cause) : (refuseStart c s).badcrc = s.badcrc := rfl
@[simp] theorem refuseStart_short (c : Cause) : (refuseStart c s).short = s.short := rfl
@[simp] theorem refuseStart_badlen (c : Cause) : (refuseStart c s).badlen = s.badlen := rfl
@[simp] theorem refuseStart_cmderr (c : Cause) : (refuseStart c s).cmderr = true := rfl
@[simp] theorem refuseStart_cmdcause (c : Cause) : (refuseStart c s).cmdcause = c := rfl
@[simp] theorem refuseStart_cfg (c : Cause) : (refuseStart c s).cfg = s.cfg := rfl
@[simp] theorem refuseStart_inputs (c : Cause) : (refuseStart c s).inputs = s.inputs := rfl
@[simp] theorem refuseStart_tick (c : Cause) : (refuseStart c s).tick = s.tick := rfl
@[simp] theorem refuseStart_out (c : Cause) : (refuseStart c s).out = s.out := rfl
@[simp] theorem refuseStart_result (c : Cause) : (refuseStart c s).result = s.result := rfl

/-! `acceptStart` -/

@[simp] theorem acceptStart_phase (n : Byte) : (acceptStart n s).phase = .tx := rfl
@[simp] theorem acceptStart_fn (n : Byte) : (acceptStart n s).fn = n := rfl
@[simp] theorem acceptStart_txi (n : Byte) : (acceptStart n s).txi = 0 := rfl
@[simp] theorem acceptStart_asm (n : Byte) : (acceptStart n s).asm = .idle := rfl
@[simp] theorem acceptStart_len (n : Byte) : (acceptStart n s).len = 0 := rfl
@[simp] theorem acceptStart_fb (n : Byte) : (acceptStart n s).fb = s.fb := rfl
@[simp] theorem acceptStart_sil (n : Byte) : (acceptStart n s).sil = 0 := rfl
@[simp] theorem acceptStart_waitc (n : Byte) : (acceptStart n s).waitc = 0 := rfl
@[simp] theorem acceptStart_bauddiv (n : Byte) : (acceptStart n s).bauddiv = s.bauddiv := rfl
@[simp] theorem acceptStart_respto (n : Byte) : (acceptStart n s).respto = s.respto := rfl
@[simp] theorem acceptStart_station (n : Byte) : (acceptStart n s).station = s.station := rfl
@[simp] theorem acceptStart_addr (n : Byte) : (acceptStart n s).addr = s.addr := rfl
@[simp] theorem acceptStart_count (n : Byte) : (acceptStart n s).count = s.count := rfl
@[simp] theorem acceptStart_pword (n : Byte) : (acceptStart n s).pword = s.pword := rfl
@[simp] theorem acceptStart_done (n : Byte) : (acceptStart n s).done = false := rfl
@[simp] theorem acceptStart_rcode (n : Byte) : (acceptStart n s).rcode = .none := rfl
@[simp] theorem acceptStart_rstation (n : Byte) : (acceptStart n s).rstation = s.rstation := rfl
@[simp] theorem acceptStart_rfunc (n : Byte) : (acceptStart n s).rfunc = s.rfunc := rfl
@[simp] theorem acceptStart_rbytes (n : Byte) : (acceptStart n s).rbytes = s.rbytes := rfl
@[simp] theorem acceptStart_rcount (n : Byte) : (acceptStart n s).rcount = s.rcount := rfl
@[simp] theorem acceptStart_rword (n : Byte) : (acceptStart n s).rword = s.rword := rfl
@[simp] theorem acceptStart_ovf (n : Byte) : (acceptStart n s).ovf = false := rfl
@[simp] theorem acceptStart_badcrc (n : Byte) : (acceptStart n s).badcrc = false := rfl
@[simp] theorem acceptStart_short (n : Byte) : (acceptStart n s).short = false := rfl
@[simp] theorem acceptStart_badlen (n : Byte) : (acceptStart n s).badlen = false := rfl
@[simp] theorem acceptStart_cmderr (n : Byte) : (acceptStart n s).cmderr = false := rfl
@[simp] theorem acceptStart_cmdcause (n : Byte) : (acceptStart n s).cmdcause = .none := rfl
@[simp] theorem acceptStart_cfg (n : Byte) : (acceptStart n s).cfg = s.cfg := rfl
@[simp] theorem acceptStart_inputs (n : Byte) : (acceptStart n s).inputs = s.inputs := rfl
@[simp] theorem acceptStart_tick (n : Byte) : (acceptStart n s).tick = s.tick := rfl
@[simp] theorem acceptStart_out (n : Byte) : (acceptStart n s).out = s.out := rfl
@[simp] theorem acceptStart_result (n : Byte) : (acceptStart n s).result = s.result := rfl

/-! `deliver` -/

@[simp] theorem deliver_phase (r : FnResult) : (deliver r s).phase = s.phase := rfl
@[simp] theorem deliver_fn (r : FnResult) : (deliver r s).fn = s.fn := rfl
@[simp] theorem deliver_txi (r : FnResult) : (deliver r s).txi = s.txi := rfl
@[simp] theorem deliver_asm (r : FnResult) : (deliver r s).asm = s.asm := rfl
@[simp] theorem deliver_len (r : FnResult) : (deliver r s).len = s.len := rfl
@[simp] theorem deliver_fb (r : FnResult) : (deliver r s).fb = s.fb := rfl
@[simp] theorem deliver_sil (r : FnResult) : (deliver r s).sil = s.sil := rfl
@[simp] theorem deliver_waitc (r : FnResult) : (deliver r s).waitc = s.waitc := rfl
@[simp] theorem deliver_bauddiv (r : FnResult) : (deliver r s).bauddiv = s.bauddiv := rfl
@[simp] theorem deliver_respto (r : FnResult) : (deliver r s).respto = s.respto := rfl
@[simp] theorem deliver_station (r : FnResult) : (deliver r s).station = s.station := rfl
@[simp] theorem deliver_addr (r : FnResult) : (deliver r s).addr = s.addr := rfl
@[simp] theorem deliver_count (r : FnResult) : (deliver r s).count = s.count := rfl
@[simp] theorem deliver_pword (r : FnResult) : (deliver r s).pword = s.pword := rfl
@[simp] theorem deliver_done (r : FnResult) : (deliver r s).done = s.done := rfl
@[simp] theorem deliver_rcode (r : FnResult) : (deliver r s).rcode = s.rcode := rfl
@[simp] theorem deliver_rstation (r : FnResult) : (deliver r s).rstation = s.rstation := rfl
@[simp] theorem deliver_rfunc (r : FnResult) : (deliver r s).rfunc = s.rfunc := rfl
@[simp] theorem deliver_rbytes (r : FnResult) : (deliver r s).rbytes = s.rbytes := rfl
@[simp] theorem deliver_rcount (r : FnResult) : (deliver r s).rcount = s.rcount := rfl
@[simp] theorem deliver_rword (r : FnResult) : (deliver r s).rword = s.rword := rfl
@[simp] theorem deliver_ovf (r : FnResult) : (deliver r s).ovf = s.ovf := rfl
@[simp] theorem deliver_badcrc (r : FnResult) : (deliver r s).badcrc = s.badcrc := rfl
@[simp] theorem deliver_short (r : FnResult) : (deliver r s).short = s.short := rfl
@[simp] theorem deliver_badlen (r : FnResult) : (deliver r s).badlen = s.badlen := rfl
@[simp] theorem deliver_cmderr (r : FnResult) : (deliver r s).cmderr = s.cmderr := rfl
@[simp] theorem deliver_cmdcause (r : FnResult) : (deliver r s).cmdcause = s.cmdcause := rfl
@[simp] theorem deliver_cfg (r : FnResult) : (deliver r s).cfg = s.cfg := rfl
@[simp] theorem deliver_inputs (r : FnResult) : (deliver r s).inputs = s.inputs := rfl
@[simp] theorem deliver_tick (r : FnResult) : (deliver r s).tick = s.tick := rfl
@[simp] theorem deliver_out (r : FnResult) : (deliver r s).out = s.out := rfl
@[simp] theorem deliver_result (r : FnResult) : (deliver r s).result = r := rfl

/-! `sampled` -/

@[simp] theorem sampled_phase : (sampled s).phase = s.phase := rfl
@[simp] theorem sampled_fn : (sampled s).fn = s.fn := rfl
@[simp] theorem sampled_txi : (sampled s).txi = s.txi := rfl
@[simp] theorem sampled_asm : (sampled s).asm = s.asm := rfl
@[simp] theorem sampled_len : (sampled s).len = s.len := rfl
@[simp] theorem sampled_fb : (sampled s).fb = s.fb := rfl
@[simp] theorem sampled_sil : (sampled s).sil = s.sil := rfl
@[simp] theorem sampled_waitc : (sampled s).waitc = s.waitc := rfl
@[simp] theorem sampled_bauddiv : (sampled s).bauddiv = s.bauddiv := rfl
@[simp] theorem sampled_respto : (sampled s).respto = s.respto := rfl
@[simp] theorem sampled_station : (sampled s).station = s.station := rfl
@[simp] theorem sampled_addr : (sampled s).addr = s.addr := rfl
@[simp] theorem sampled_count : (sampled s).count = s.count := rfl
@[simp] theorem sampled_pword : (sampled s).pword = s.pword := rfl
@[simp] theorem sampled_done : (sampled s).done = s.done := rfl
@[simp] theorem sampled_rcode : (sampled s).rcode = s.rcode := rfl
@[simp] theorem sampled_rstation : (sampled s).rstation = s.rstation := rfl
@[simp] theorem sampled_rfunc : (sampled s).rfunc = s.rfunc := rfl
@[simp] theorem sampled_rbytes : (sampled s).rbytes = s.rbytes := rfl
@[simp] theorem sampled_rcount : (sampled s).rcount = s.rcount := rfl
@[simp] theorem sampled_rword : (sampled s).rword = s.rword := rfl
@[simp] theorem sampled_ovf : (sampled s).ovf = s.ovf := rfl
@[simp] theorem sampled_badcrc : (sampled s).badcrc = s.badcrc := rfl
@[simp] theorem sampled_short : (sampled s).short = s.short := rfl
@[simp] theorem sampled_badlen : (sampled s).badlen = s.badlen := rfl
@[simp] theorem sampled_cmderr : (sampled s).cmderr = s.cmderr := rfl
@[simp] theorem sampled_cmdcause : (sampled s).cmdcause = s.cmdcause := rfl
@[simp] theorem sampled_cfg : (sampled s).cfg = s.cfg := rfl
@[simp] theorem sampled_inputs : (sampled s).inputs = s.inputs.tail := rfl
@[simp] theorem sampled_tick : (sampled s).tick = s.tick + 1 := rfl
@[simp] theorem sampled_out : (sampled s).out = { txValid := decide (s.phase = .tx), txData := 0, hRdata := 0, doneO := s.done, busyO := busy s, transferred := none } := rfl
@[simp] theorem sampled_result : (sampled s).result = s.result := rfl

/-! `resetBlock` -/

@[simp] theorem resetBlock_phase : (resetBlock s).phase = State.reset.phase := rfl
@[simp] theorem resetBlock_fn : (resetBlock s).fn = State.reset.fn := rfl
@[simp] theorem resetBlock_txi : (resetBlock s).txi = State.reset.txi := rfl
@[simp] theorem resetBlock_asm : (resetBlock s).asm = State.reset.asm := rfl
@[simp] theorem resetBlock_len : (resetBlock s).len = State.reset.len := rfl
@[simp] theorem resetBlock_fb : (resetBlock s).fb = State.reset.fb := rfl
@[simp] theorem resetBlock_sil : (resetBlock s).sil = State.reset.sil := rfl
@[simp] theorem resetBlock_waitc : (resetBlock s).waitc = State.reset.waitc := rfl
@[simp] theorem resetBlock_bauddiv : (resetBlock s).bauddiv = State.reset.bauddiv := rfl
@[simp] theorem resetBlock_respto : (resetBlock s).respto = State.reset.respto := rfl
@[simp] theorem resetBlock_station : (resetBlock s).station = State.reset.station := rfl
@[simp] theorem resetBlock_addr : (resetBlock s).addr = State.reset.addr := rfl
@[simp] theorem resetBlock_count : (resetBlock s).count = State.reset.count := rfl
@[simp] theorem resetBlock_pword : (resetBlock s).pword = State.reset.pword := rfl
@[simp] theorem resetBlock_done : (resetBlock s).done = State.reset.done := rfl
@[simp] theorem resetBlock_rcode : (resetBlock s).rcode = State.reset.rcode := rfl
@[simp] theorem resetBlock_rstation : (resetBlock s).rstation = State.reset.rstation := rfl
@[simp] theorem resetBlock_rfunc : (resetBlock s).rfunc = State.reset.rfunc := rfl
@[simp] theorem resetBlock_rbytes : (resetBlock s).rbytes = State.reset.rbytes := rfl
@[simp] theorem resetBlock_rcount : (resetBlock s).rcount = State.reset.rcount := rfl
@[simp] theorem resetBlock_rword : (resetBlock s).rword = State.reset.rword := rfl
@[simp] theorem resetBlock_ovf : (resetBlock s).ovf = State.reset.ovf := rfl
@[simp] theorem resetBlock_badcrc : (resetBlock s).badcrc = State.reset.badcrc := rfl
@[simp] theorem resetBlock_short : (resetBlock s).short = State.reset.short := rfl
@[simp] theorem resetBlock_badlen : (resetBlock s).badlen = State.reset.badlen := rfl
@[simp] theorem resetBlock_cmderr : (resetBlock s).cmderr = State.reset.cmderr := rfl
@[simp] theorem resetBlock_cmdcause : (resetBlock s).cmdcause = State.reset.cmdcause := rfl
@[simp] theorem resetBlock_cfg : (resetBlock s).cfg = s.cfg := rfl
@[simp] theorem resetBlock_inputs : (resetBlock s).inputs = s.inputs := rfl
@[simp] theorem resetBlock_tick : (resetBlock s).tick = s.tick := rfl
@[simp] theorem resetBlock_out : (resetBlock s).out = s.out := rfl
@[simp] theorem resetBlock_result : (resetBlock s).result = s.result := rfl

/-! `State.reset` -/

@[simp] theorem reset_phase : State.reset.phase = .idle := rfl
@[simp] theorem reset_fn : State.reset.fn = 0 := rfl
@[simp] theorem reset_txi : State.reset.txi = 0 := rfl
@[simp] theorem reset_asm : State.reset.asm = .idle := rfl
@[simp] theorem reset_len : State.reset.len = 0 := rfl
@[simp] theorem reset_fb : State.reset.fb = [] := rfl
@[simp] theorem reset_sil : State.reset.sil = 0 := rfl
@[simp] theorem reset_waitc : State.reset.waitc = 0 := rfl
@[simp] theorem reset_bauddiv : State.reset.bauddiv = 0 := rfl
@[simp] theorem reset_respto : State.reset.respto = 0 := rfl
@[simp] theorem reset_station : State.reset.station = 0 := rfl
@[simp] theorem reset_addr : State.reset.addr = 0 := rfl
@[simp] theorem reset_count : State.reset.count = 0 := rfl
@[simp] theorem reset_pword : State.reset.pword = Vector.replicate 127 0 := rfl
@[simp] theorem reset_done : State.reset.done = false := rfl
@[simp] theorem reset_rcode : State.reset.rcode = .none := rfl
@[simp] theorem reset_rstation : State.reset.rstation = 0 := rfl
@[simp] theorem reset_rfunc : State.reset.rfunc = 0 := rfl
@[simp] theorem reset_rbytes : State.reset.rbytes = 0 := rfl
@[simp] theorem reset_rcount : State.reset.rcount = 0 := rfl
@[simp] theorem reset_rword : State.reset.rword = Vector.replicate 127 0 := rfl
@[simp] theorem reset_ovf : State.reset.ovf = false := rfl
@[simp] theorem reset_badcrc : State.reset.badcrc = false := rfl
@[simp] theorem reset_short : State.reset.short = false := rfl
@[simp] theorem reset_badlen : State.reset.badlen = false := rfl
@[simp] theorem reset_cmderr : State.reset.cmderr = false := rfl
@[simp] theorem reset_cmdcause : State.reset.cmdcause = .none := rfl
@[simp] theorem reset_cfg : State.reset.cfg = Config.standard := rfl
@[simp] theorem reset_inputs : State.reset.inputs = [] := rfl
@[simp] theorem reset_tick : State.reset.tick = 0 := rfl
@[simp] theorem reset_out : State.reset.out = Outputs.rest := rfl
@[simp] theorem reset_result : State.reset.result = .none := rfl

end Sys2Proof.Machine
end

