-- ==== Sys2Proof/Laws/Ops.lean ====
section
/-! SUPPORT. For each shared operation, once, everything it can do. -/

namespace Sys2Proof.Machine

/-- Offering a frame writes the transmit port while `PHASE = TX` and nothing otherwise. -/
theorem offerFrame_cases (fr : List Byte) (s : State) :
    (s.phase = .tx ∧ offerFrame fr s = { s with out := { s.out with txValid := true, txData := fr.getD s.txi.toNat 0 } }) ∨
    (s.phase ≠ .tx ∧ offerFrame fr s = s) := by
  unfold offerFrame frameByte
  split
  · exact .inl ⟨by assumption, rfl⟩
  · exact .inr ⟨by assumption, rfl⟩

/-- Offering a frame writes no field but `out`. -/
theorem offerFrame_frame (fr : List Byte) (s : State) : offerFrame fr s = { s with out := (offerFrame fr s).out } := by
  rcases offerFrame_cases fr s with ⟨_, h⟩ | ⟨_, h⟩ <;> rw [h]

/-- A transfer while `PHASE = TX`. -/
theorem transferByte_tx {s : State} (h : s.phase = .tx) :
    transferByte s = { s with out := { s.out with
      txValid := true, txData := (reqFrame s).getD s.txi.toNat 0, transferred := some ((reqFrame s).getD s.txi.toNat 0) } } := by
  simp [transferByte, offerFrame, frameByte, h]

/-- What handing over a candidate frame does: completion, or one flag. -/
theorem handOver_cases (buf : List Byte) (s : State) :
    (∃ f, decodeCandidate s.cfg buf = .ok f ∧ handOver buf s = completeWith f s) ∨
    (decodeCandidate s.cfg buf = .shortFrame ∧ handOver buf s = flagShort s) ∨
    (decodeCandidate s.cfg buf = .invalidFrame ∧ handOver buf s = flagBadCrc s) ∨
    (decodeCandidate s.cfg buf = .badLength ∧ handOver buf s = flagBadLen s) := by
  unfold handOver
  split
  · next f h => exact .inl ⟨f, h, rfl⟩
  · next h => exact .inr (.inl ⟨h, rfl⟩)
  · next h => exact .inr (.inr (.inl ⟨h, rfl⟩))
  · next h => exact .inr (.inr (.inr ⟨h, rfl⟩))

/-- What the end of a receive cycle does. -/
theorem endCycle_cases (buf : List Byte) (s : State) :
    (buf = [] ∧ endCycle buf s = clearAssembler s) ∨
    (buf ≠ [] ∧ endCycle buf s = clearAssembler (handOver buf s)) := by
  cases buf with
  | nil => exact .inl ⟨rfl, rfl⟩
  | cons b buf => exact .inr ⟨by simp, by simp [endCycle]⟩

/-- The legality checks all pass exactly when … (spec/45_session_and_host.md R266). -/
theorem legality_none (fn : Byte) (s : State) :
    legality fn s = .none ↔
      s.phase = .idle ∧ (fn = fnRead ∨ fn = fnWrite) ∧ s.bauddiv ≠ 0 ∧ s.respto ≠ 0 ∧ (fn = fnWrite → s.count.toNat ≤ 127) := by
  unfold legality maxWriteWords
  split
  · next h => simp [h]
  · next h =>
    have hp : s.phase = .idle := by simpa using h
    split
    · next h₂ => exact ⟨(nomatch ·), fun ⟨_, h, _⟩ => absurd h (not_or.2 h₂)⟩
    · next h₂ =>
      have h₂' : fn = fnRead ∨ fn = fnWrite := by
        by_cases a : fn = fnRead
        · exact .inl a
        · by_cases b : fn = fnWrite
          · exact .inr b
          · exact absurd ⟨a, b⟩ h₂
      split
      · next h₃ =>
        rcases h₃ with h₃ | h₃ <;> simp [h₃]
      · next h₃ =>
        have h₃' := not_or.1 h₃
        split
        · next h₄ => simp [h₄.1, h₄.2]
        · next h₄ =>
          refine ⟨fun _ => ⟨hp, h₂', h₃'.1, h₃'.2, fun hw => ?_⟩, fun _ => rfl⟩
          by_contra hc
          exact h₄ ⟨hw, by omega⟩

/-- What `START(fn)` does. -/
theorem startCommand_cases (fn : Byte) (s : State) :
    (legality fn s = .none ∧ startCommand fn s = acceptStart fn s) ∨
    (legality fn s ≠ .none ∧ startCommand fn s = refuseStart (legality fn s) s) := by
  unfold startCommand
  split
  · exact .inl ⟨by assumption, rfl⟩
  · exact .inr ⟨by assumption, rfl⟩

/-- While the block is active a `START` is refused with cause `BUSY`. -/
theorem startCommand_busy {s : State} (fn : Byte) (h : s.phase ≠ .idle) : startCommand fn s = refuseStart .busy s := by
  simp [startCommand, legality, h]

/-- A write to an operand register, and nothing else, is what a host write stores. -/
theorem storeHost_frame (idx : HostIndex) (data : HostData) (s : State) :
    storeHost idx data s = { s with
      bauddiv := (storeHost idx data s).bauddiv, respto := (storeHost idx data s).respto,
      station := (storeHost idx data s).station, addr := (storeHost idx data s).addr,
      count := (storeHost idx data s).count, pword := (storeHost idx data s).pword } := by
  unfold storeHost
  split <;> rfl

/-- What `HWR` does. -/
theorem writeHost_cases (idx : HostIndex) (data : HostData) (s : State) :
    (idx = 0x000 ∧ writeHost idx data s = startCommand (low8 data) s) ∨
    (idx ≠ 0x000 ∧ s.phase ≠ .idle ∧ writeHost idx data s = s) ∨
    (idx = 0x009 ∧ s.phase = .idle ∧ writeHost idx data s = acknowledge s) ∨
    (idx ≠ 0x000 ∧ idx ≠ 0x009 ∧ s.phase = .idle ∧ writeHost idx data s = storeHost idx data s) := by
  unfold writeHost
  split
  · exact .inl ⟨by assumption, rfl⟩
  · split
    · exact .inr (.inl ⟨by assumption, by assumption, rfl⟩)
    · next h₀ h =>
      have hp : s.phase = .idle := by simpa using h
      split
      · exact .inr (.inr (.inl ⟨by assumption, hp, rfl⟩))
      · exact .inr (.inr (.inr ⟨h₀, by assumption, hp, rfl⟩))

/-- What `ACK` does. -/
theorem ackCommand_cases (s : State) :
    (s.phase = .idle ∧ ackCommand s = acknowledge s) ∨ (s.phase ≠ .idle ∧ ackCommand s = s) := by
  unfold ackCommand
  split
  · exact .inl ⟨by assumption, rfl⟩
  · exact .inr ⟨by assumption, rfl⟩

/-- `ReqLen` for the two functions (spec/43_request_encoder.md R222). -/
theorem reqLen_read {s : State} (h : s.fn = fnRead) : reqLen s = 8 := by
  simp [reqLen, reqFrame, h]

theorem reqLen_write {s : State} (h : s.fn = fnWrite) : reqLen s = 9 + 2 * s.count.toNat := by
  simp [reqLen, reqFrame, h, fnRead, fnWrite]

/-- The candidate frame has `LEN` bytes. -/
@[simp] theorem candidate_length (s : State) : (candidate s).length = s.len := by
  simp [candidate]

/-- No single register stands at or above index 0x0A. -/
theorem singleReg_unmapped {n : Nat} (h : 0x0A ≤ n) : singleReg n = .unmapped := by
  obtain ⟨k, rfl⟩ := Nat.exists_eq_add_of_le' h
  rfl

/-- The indices of the payload store (spec/10_state.md R53). -/
theorem hostReg_pword {idx : HostIndex} {i : Fin 127} (h : idx.toNat = 0x80 + i.val) : hostReg idx = .pword i := by
  have hi := i.isLt
  rw [hostReg, dif_pos ⟨by omega, by omega⟩]
  exact congrArg HostReg.pword (Fin.ext (by simp [h]))

/-- The indices of the result store. -/
theorem hostReg_rword {idx : HostIndex} {i : Fin 127} (h : idx.toNat = 0x100 + i.val) : hostReg idx = .rword i := by
  have hi := i.isLt
  rw [hostReg, dif_neg (by omega), dif_pos ⟨by omega, by omega⟩]
  exact congrArg HostReg.rword (Fin.ext (by simp [h]))

/-- Every index outside the two stores is that of a single register, or unmapped. -/
theorem hostReg_single {idx : HostIndex} (h : idx.toNat ≤ 0x7F ∨ idx.toNat = 0xFF ∨ 0x17F ≤ idx.toNat) :
    hostReg idx = singleReg idx.toNat := by
  simp only [hostReg, show ¬ (0x80 ≤ idx.toNat ∧ idx.toNat ≤ 0xFE) by omega, dite_false,
    show ¬ (0x100 ≤ idx.toNat ∧ idx.toNat ≤ 0x17E) by omega]

/-- The unmapped indices. -/
theorem hostReg_unmapped {idx : HostIndex}
    (h : 0x0A ≤ idx.toNat ∧ idx.toNat ≤ 0x7F ∨ idx.toNat = 0xFF ∨ 0x17F ≤ idx.toNat) : hostReg idx = .unmapped :=
  (hostReg_single (by omega)).trans (singleReg_unmapped (by omega))

end Sys2Proof.Machine
end

