-- ==== Sys2Proof/Laws/PerInstr.lean ====
section
/-! SUPPORT. Statements about the syntax of every instruction, one lemma per constructor of `Instr`. -/

namespace Sys2Proof.Laws.EncodedForm

/-- Which of the three encodings a form is. -/
def kind : Code → Nat
  | .request _ => 0
  | .response _ => 1
  | .port _ => 2

/-- Whether an instruction has an encoding, and of which kind, does not depend on the configuration parameters. -/
def Statement (i : Instr) : Prop :=
  ∀ cfg cfg' : Config, (encode cfg i).map kind = (encode cfg' i).map kind

theorem reqRead (station : Byte) (address count : Word) : Statement (.reqRead station address count) := fun _ _ => Eq.trans (b := some 0) rfl rfl
theorem reqWrite (station : Byte) (address count : Word) (words : List Word) :
    Statement (.reqWrite station address count words) := fun _ _ => Eq.trans (b := some 0) rfl rfl
theorem resp (frame : RespFrame) : Statement (.resp frame) := fun _ _ => Eq.trans (b := some 1) rfl rfl
theorem hrd (idx : HostIndex) : Statement (.hrd idx) := fun _ _ => rfl
theorem hwr (idx : HostIndex) (data : HostData) : Statement (.hwr idx data) := fun _ _ => rfl
theorem startRead : Statement .startRead := fun _ _ => rfl
theorem startWrite : Statement .startWrite := fun _ _ => rfl
theorem startRefuse (fn : Byte) : Statement (.startRefuse fn) := fun _ _ => rfl
theorem ack : Statement .ack := fun _ _ => rfl
theorem txByte : Statement .txByte := fun _ _ => rfl
theorem txStall : Statement .txStall := fun _ _ => rfl
theorem txLast : Statement .txLast := fun _ _ => rfl
theorem rxByte (data : Byte) : Statement (.rxByte data) := fun _ _ => rfl
theorem rxDrop : Statement .rxDrop := fun _ _ => rfl
theorem rxDiscard : Statement .rxDiscard := fun _ _ => rfl
theorem silTick : Statement .silTick := fun _ _ => rfl
theorem idleExpire : Statement .idleExpire := fun _ _ => rfl
theorem completeOk (frame : ParsedFrame) : Statement (.completeOk frame) := fun _ _ => rfl
theorem waitTick : Statement .waitTick := fun _ _ => rfl
theorem waitExpire : Statement .waitExpire := fun _ _ => rfl
theorem reset : Statement .reset := fun _ _ => rfl
theorem crc16Byte (crc : Word) (byte : Byte) : Statement (.crc16Byte crc byte) := fun _ _ => rfl
theorem crc16 (m : List Byte) : Statement (.crc16 m) := fun _ _ => rfl
theorem crcSplit (crc : Word) : Statement (.crcSplit crc) := fun _ _ => rfl
theorem crcVerify (m : List Byte) (x : Word) : Statement (.crcVerify m x) := fun _ _ => rfl
theorem encodeRead (station : Byte) (address count : Word) : Statement (.encodeRead station address count) := fun _ _ => rfl
theorem encodeWrite (station : Byte) (address count : Word) (words : List Word) :
    Statement (.encodeWrite station address count words) := fun _ _ => rfl
theorem decode (buf : List Byte) : Statement (.decode buf) := fun _ _ => rfl
theorem idletk (bauddiv : Word) : Statement (.idletk bauddiv) := fun _ _ => rfl

end Sys2Proof.Laws.EncodedForm
end

