-- ==== Sys2Proof/Laws/Step.lean ====
section
/-! SUPPORT. How a tick's operations compose. -/

namespace Sys2Proof.Machine

@[simp] theorem performAll_nil (s : State) : performAll [] s = .next s := rfl

theorem performAll_cons {i : Instr} {s t : State} (h : exec i s = .next t) (l : List Instr) :
    performAll (i :: l) s = performAll l t := by
  simp [performAll, h]

/-- Operations performed one list after the other. -/
theorem performAll_append {l : List Instr} {s t : State} (h : performAll l s = .next t) (r : List Instr) :
    performAll (l ++ r) s = performAll r t := by
  induction l generalizing s with
  | nil => cases h; rfl
  | cons i l ih =>
    cases hi : exec i s with
    | next u =>
      rw [performAll_cons hi] at h
      rw [List.cons_append, performAll_cons hi]
      exact ih h
    | fault r => simp [performAll, hi] at h
    | refused r => simp [performAll, hi] at h

/-- The inputs of a tick when some are queued. -/
theorem currentInput_cons {s : State} {inp : TickInput} {rest : List TickInput} (h : s.inputs = inp :: rest) :
    currentInput s = inp := by
  simp [currentInput, h]

end Sys2Proof.Machine
end

