-- ==== Sys2Proof/Tests/Slice0.lean ====
section
/-! SUPPORT. Small tests. Expected values come from spec/95_test_vectors.md, from the examples of the rules named, or from counting by
hand; the `witness` theorems show, for each statement with hypotheses, operands and states that meet them. -/

namespace Sys2Proof.Tests

open Sys2Proof Sys2Proof.Machine

-- One test at a time: a waiting thread for each would not fit the memory limit of the check.
set_option Elab.async false

/-! ## Helpers -/

/-- The setting of section 2.4 of spec/95_test_vectors.md before the command: `BAUDDIV = 1`, `RESPTO = 1000`, station 1, address
0x0100, count 2. -/
def ready : State := { State.reset with bauddiv := 1, respto := 1000, station := 1, addr := 0x0100, count := 2 }

/-- The same with `START.READ` accepted and `TXI` bytes of the request handed over. -/
def sending (txi : BitVec 9) : State := { ready with phase := .tx, fn := 3, txi := txi }

/-- The same waiting for a reply, with the bytes received so far and the two counters. -/
def waiting (bytes : List Byte) (sil : BitVec 22) (waitc : BitVec 32) : State :=
  { ready with phase := .wait, fn := 3, fb := memFill [] 0 bytes, len := bytes.length,
               asm := if bytes = [] then .idle else .receiving, sil := sil, waitc := waitc }

/-- A state with its result shown: `RHEAD = 0x02040301`, `RWORD = [0x1234, 0xABCD]`. -/
def finished : State :=
  { ready with fn := 3, done := true, rcode := .ok, rstation := 1, rfunc := 3, rbytes := 4, rcount := 2,
               rword := ((Vector.replicate 127 0).set 0 0x1234).set 1 0xABCD }

/-- Inputs for the coming ticks. -/
def State.given (s : State) (inputs : List TickInput) : State := { s with inputs := inputs }

/-- Does `P` hold of the next state? -/
def holdsAfter (o : Host.Outcome State Fault Refusal) (P : State → Bool) : Bool :=
  match o with
  | .next t => P t
  | .fault _ => false
  | .refused _ => false

theorem exists_next {o : Host.Outcome State Fault Refusal} {P : State → Bool} (h : holdsAfter o P = true) : ∃ t, o = .next t := by
  cases o with
  | next t => exact ⟨t, rfl⟩
  | fault r => cases r
  | refused r => cases h

/-- The good reply `G` of section 2.4. -/
def good : List Byte := [0x01, 0x03, 0x04, 0x12, 0x34, 0xAB, 0xCD, 0x20, 0x00]

/-- A tick on which the transmitter is ready. -/
def go : TickInput := { TickInput.quiet with txReady := true }

/-- A tick on which the host presents an operation. -/
def host (op : HostOp) : TickInput := { TickInput.quiet with host := op }

/-- A tick on which a character is presented. -/
def char (b : Byte) : TickInput := { TickInput.quiet with rx := some b }

/-! ## Well-formedness: a term that each check refuses -/

theorem test_wf_reqWrite_count : (Instr.reqWrite 1 0 128 (List.replicate 128 0)).wellFormed Config.standard = false := by decide +kernel
theorem test_wf_reqWrite_words : (Instr.reqWrite 1 0 2 [5]).wellFormed Config.standard = false := by decide +kernel
theorem test_wf_resp_byte_count :
    (Instr.resp { station := 1, function := 3, byteCount := 2, data := [0] }).wellFormed Config.standard = false := by decide +kernel
theorem test_wf_resp_length :
    (Instr.resp { station := 1, function := 3, byteCount := 0, data := List.replicate 252 0 }).wellFormed Config.standard = false := by
  decide +kernel
theorem test_wf_hwr_command : (Instr.hwr 0x000 3).wellFormed Config.standard = false := by decide +kernel
theorem test_wf_hwr_ack : (Instr.hwr 0x009 0).wellFormed Config.standard = false := by decide +kernel
theorem test_wf_startRefuse_read : (Instr.startRefuse 3).wellFormed Config.standard = false := by decide +kernel
theorem test_wf_startRefuse_write : (Instr.startRefuse 16).wellFormed Config.standard = false := by decide +kernel
theorem test_wf_completeOk_count :
    (Instr.completeOk { station := 1, function := 3, byteCount := 4, registerCount := 1, values := [0] }).wellFormed Config.standard
      = false := by decide +kernel
theorem test_wf_completeOk_values :
    (Instr.completeOk { station := 1, function := 3, byteCount := 4, registerCount := 2, values := [0] }).wellFormed Config.standard
      = false := by decide +kernel
theorem test_wf_encodeWrite_count :
    (Instr.encodeWrite 1 0 128 (List.replicate 128 0)).wellFormed Config.standard = false := by decide +kernel
theorem test_wf_encodeWrite_words : (Instr.encodeWrite 1 0 1 []).wellFormed Config.standard = false := by decide +kernel
theorem test_wf_decode_empty : (Instr.decode []).wellFormed Config.standard = false := by decide +kernel
theorem test_wf_decode_long : (Instr.decode (List.replicate 257 0)).wellFormed Config.standard = false := by decide +kernel

/-! ## Decoding of encodings written out from R111, R112, R113 and R118 -/

/-- V-ENC-4. -/
theorem test_decode_reqRead :
    decode Config.standard (.request [0x11, 0x03, 0x00, 0x6B, 0x00, 0x03, 0x76, 0x87]) = .ok (.reqRead 0x11 0x006B 3) := by decide +kernel
/-- V-ENC-11. -/
theorem test_decode_reqWrite :
    decode Config.standard (.request [0x01, 0x10, 0xE0, 0x1D, 0x00, 0x01, 0x02, 0x12, 0x34, 0x49, 0x64])
      = .ok (.reqWrite 0x01 0xE01D 1 [0x1234]) := by decide +kernel
/-- V-DEC-11. -/
theorem test_decode_resp :
    decode Config.standard (.response [0x01, 0x03, 0x03, 0x11, 0x22, 0x33, 0x3E, 0x4D])
      = .ok (.resp { station := 0x01, function := 0x03, byteCount := 0x03, data := [0x11, 0x22, 0x33] }) := by decide +kernel
theorem test_decode_hrd : decode Config.standard (.port (.rd 0x1FF)) = .ok (.hrd 0x1FF) := by decide +kernel
theorem test_decode_hwr : decode Config.standard (.port (.wr 0x006 0x0100)) = .ok (.hwr 0x006 0x0100) := by decide +kernel
theorem test_decode_startRead : decode Config.standard (.port (.wr 0x000 3)) = .ok .startRead := by decide +kernel
theorem test_decode_startWrite : decode Config.standard (.port (.wr 0x000 0xFFFFFF10)) = .ok .startWrite := by decide +kernel
theorem test_decode_startRefuse : decode Config.standard (.port (.wr 0x000 0x1104)) = .ok (.startRefuse 4) := by decide +kernel
theorem test_decode_ack : decode Config.standard (.port (.wr 0x009 0xFFFFFFFF)) = .ok .ack := by decide +kernel
theorem test_decode_none : decode Config.standard (.port .none) = .error .noOperation := by decide +kernel
/-- A flipped bit of V-ENC-2, and function byte 4. -/
theorem test_decode_request_errors :
    decode Config.standard (.request [0x01, 0x03, 0x01, 0x00, 0x00, 0x03, 0xC5, 0xF7]) = .error .requestChecksum ∧
    decode Config.standard (.request [0x01, 0x04, 0x01, 0x00, 0x00, 0x02, 0xC5, 0xF7]) = .error (.unknownFunction 4) ∧
    decode Config.standard (.request [0x01, 0x03]) = .error .truncatedRequest := by decide +kernel
/-- V-DEC-5, V-DEC-2 and V-DEC-8. -/
theorem test_decode_response_errors :
    decode Config.standard (.response [0x01, 0x03, 0x00, 0xF0]) = .error .shortFrame ∧
    decode Config.standard (.response [0x01, 0x03, 0x04, 0x12, 0x34, 0xAB, 0xCD, 0x00, 0x20]) = .error .invalidFrame ∧
    decode Config.standard (.response [0x01, 0x83, 0x02, 0xF1, 0xC0]) = .error .badLength := by decide +kernel

/-! ## Words of spec/opcode_table.json -/

theorem test_table_rows :
    decodeTableWord 8 0x03 = some (.reqRead 0 0 0) ∧ decodeTableWord 8 0x10 = some (.reqWrite 0 0 0 []) ∧
    decodeTableWord 24 0x00003 = some .startRead ∧ decodeTableWord 24 0x00010 = some .startWrite ∧
    decodeTableWord 24 0x00900 = some .ack ∧ decodeTableWord 24 0x00205 = some (.hwr 0x002 5) := by decide +kernel

/-- The step after reset on a placed word runs its instruction: the verdict of V-SES's refused `START` (R266), and the first byte of a
read request on the transmit port. -/
theorem test_withFetchWord :
    holdsAfter (step (State.reset.withFetchWord 24 0x00003)) (fun t => t.cmderr && t.cmdcause == .cfg) = true ∧
    holdsAfter (step (State.reset.withFetchWord 8 0x03)) (fun t => t.out.txValid && t.out.txData == 0 && t.phase == .tx) = true := by
  decide +kernel

/-! ## Instructions -/

/-- V-ENC-2, byte 7. -/
theorem test_reqRead : holdsAfter (exec (.reqRead 0x01 0x0100 2) (sending 7)) (fun t => t.out.txData == 0xF7) = true := by decide +kernel
/-- V-ENC-9, byte 4. -/
theorem test_reqWrite :
    holdsAfter (exec (.reqWrite 0x01 0x0200 2 [0x000A, 0x0102]) (sending 8)) (fun t => t.out.txData == 0x0A) = true := by decide +kernel
/-- V-DEC-11 at the idle expiry. -/
theorem test_resp :
    holdsAfter (exec (.resp { station := 1, function := 3, byteCount := 3, data := [0x11, 0x22, 0x33] }) (waiting [1] 34 99))
      (fun t => t.rcode == .ok && t.rbytes == 3 && t.rcount == 1 && t.rword[0] == 0x1122 && t.phase == .idle) = true := by decide +kernel
/-- R261's example. -/
theorem test_hrd :
    (readHost finished 0x001, readHost finished 0x008, readHost finished 0x101, readHost finished 0x102)
      = (0x00030022, 0x02040301, 0xABCD, 0) := by decide +kernel
/-- V-TIM-3. -/
theorem test_hwr : holdsAfter (exec (.hwr 0x002 0x12345) ready) (fun t => readHost t 2 == 0x2345 && readHost t 3 == 0x4D26F) = true := by
  decide +kernel
/-- R262's corner case; V-SES-7. -/
theorem test_hwr_narrow :
    holdsAfter (exec (.hwr 0x007 0x10005) ready) (fun t => t.count == 5) = true ∧ holdsAfter (exec (.hwr 0x0FF 5) ready) (fun t => t == ready) = true := by
  decide +kernel
/-- V-SES-4. -/
theorem test_startRead :
    holdsAfter (exec .startRead finished) (fun t => readHost t 1 == 0x00030005 && readHost t 8 == 0 && readHost t 0x100 == 0) = true := by
  decide +kernel
/-- `COUNT = 128` (P4). -/
theorem test_startRead_count : holdsAfter (exec .startRead { ready with count := 128 }) (fun t => t.phase == .tx) = true := by
  decide +kernel
/-- P2, tick 9. -/
theorem test_startWrite : holdsAfter (exec .startWrite ready) (fun t => readHost t 1 == 0x00100005) = true := by decide +kernel
/-- P4: cause `COUNT`. -/
theorem test_startWrite_count :
    holdsAfter (exec .startWrite { ready with count := 128 }) (fun t => readHost t 1 == 0x9000) = true := by decide +kernel
/-- P4: cause `ILLFN`. -/
theorem test_startRefuse : holdsAfter (exec (.startRefuse 4) ready) (fun t => readHost t 1 == 0x5000) = true := by decide +kernel
/-- R269's example. -/
theorem test_ack :
    holdsAfter (exec .ack finished) (fun t => readHost t 1 == 0x00030000 && readHost t 0x100 == 0 && t.rword[0] == 0x1234) = true := by
  decide +kernel
/-- R223's example. -/
theorem test_txByte : holdsAfter (exec .txByte (sending 6)) (fun t => t.txi == 7 && t.out.transferred == some 0xC5) = true := by
  decide +kernel
/-- V-SES-9. -/
theorem test_txStall :
    holdsAfter (exec .txStall (sending 0)) (fun t => t.txi == 0 && t.out.txValid && t.out.txData == 0x01 && t.out.transferred == none)
      = true := by decide +kernel
/-- R224's example. -/
theorem test_txLast :
    holdsAfter (exec .txLast (sending 7)) (fun t => readHost t 1 == 0x00030009 && t.txi == 0 && t.out.transferred == some 0xF7) = true := by
  decide +kernel
/-- R172's example. -/
theorem test_rxByte :
    holdsAfter (exec (.rxByte 0x04) (waiting [0x01, 0x03] 17 5))
      (fun t => candidate t == [0x01, 0x03, 0x04] && t.asm == .receiving && t.sil == 0) = true := by decide +kernel
/-- R173's example. -/
theorem test_rxDrop :
    holdsAfter (exec .rxDrop { waiting (good.take 8) 1 5 with cfg := { Config.standard with maxFrame := 8 } })
      (fun t => t.ovf && candidate t == good.take 8 && t.sil == 0) = true := by decide +kernel
/-- R153. -/
theorem test_rxDiscard : exec .rxDiscard (sending 3) = .next (sending 3) := rfl
/-- The last tick of silence but one. -/
theorem test_silTick : holdsAfter (exec .silTick (waiting [1] 33 5)) (fun t => t.sil == 34 && t.len == 1) = true := by decide +kernel
/-- V-ASM-1, tick 63. -/
theorem test_idleExpire :
    holdsAfter (exec .idleExpire (waiting good 34 53))
      (fun t => readHost t 1 == 0x00030022 && t.rword[0] == 0x1234 && t.rword[1] == 0xABCD && t.len == 0 && t.waitc == 0) = true := by
  decide +kernel
/-- V-ASM-3, tick 58. -/
theorem test_idleExpire_short :
    holdsAfter (exec .idleExpire (waiting (good.take 4) 34 48)) (fun t => readHost t 1 == 0x00030409 && t.len == 0 && t.waitc == 48)
      = true := by decide +kernel
/-- X6: the partial acknowledgement of eight registers. -/
theorem test_completeOk :
    holdsAfter (exec (.completeOk { station := 1, function := 16, byteCount := 16, registerCount := 8, values := List.replicate 8 0 })
      (waiting good 34 9)) (fun t => readHost t 8 == 0x08101001 && t.phase == .idle && t.done) = true := by decide +kernel
/-- R270's example. -/
theorem test_waitTick :
    holdsAfter (exec .waitTick { waiting [1] 3 99 with respto := 2000 }) (fun t => t.waitc == 100 && t.len == 1) = true := by
  decide +kernel
/-- V-ASM-6, tick 1009. -/
theorem test_waitExpire : holdsAfter (exec .waitExpire (waiting [1] 3 999)) (fun t => readHost t 1 == 0x00030042 && t.len == 0) = true := by
  decide +kernel
/-- R56. -/
theorem test_reset : holdsAfter (exec .reset finished) (fun t => t == State.reset) = true := by decide +kernel
/-- V-CRC-2 and V-CRC-13. -/
theorem test_crc16Byte :
    crcByte Config.standard 0xFFFF 0x01 = 0x807E ∧ holdsAfter (exec (.crc16Byte 0 0) ready) (fun t => t.result == .word 0) = true := by
  decide +kernel
/-- V-CRC-8. -/
theorem test_crc16 :
    holdsAfter (exec (.crc16 [0x31, 0x32, 0x33, 0x34, 0x35, 0x36, 0x37, 0x38, 0x39]) ready)
      (fun t => t.result == .word 0x4B37) = true := by
  decide +kernel
/-- V-CRC-15: the parameter is used. -/
theorem test_crc16_poly :
    crcOf { Config.standard with crcPoly := 0x8408 } [0x31, 0x32, 0x33, 0x34, 0x35, 0x36, 0x37, 0x38, 0x39] = 0x6F91 := by
  decide +kernel
/-- V-CRC-16. -/
theorem test_crcSplit : holdsAfter (exec (.crcSplit 0x2000) ready) (fun t => t.result == .split 0x00 0x20) = true := by decide +kernel
/-- V-CRC-14. -/
theorem test_crcVerify :
    holdsAfter (exec (.crcVerify (good.take 7) 0x2000) ready) (fun t => t.result == .flag true) = true ∧
    holdsAfter (exec (.crcVerify (good.take 7) 0x0020) ready) (fun t => t.result == .flag false) = true := by decide +kernel
/-- V-ENC-6. -/
theorem test_encodeRead :
    holdsAfter (exec (.encodeRead 0xFF 0xFFFF 0xFFFF) ready)
      (fun t => t.result == .bytes [0xFF, 0x03, 0xFF, 0xFF, 0xFF, 0xFF, 0x51, 0x80]) = true := by decide +kernel
/-- V-ENC-9. -/
theorem test_encodeWrite :
    holdsAfter (exec (.encodeWrite 0x01 0x0200 2 [0x000A, 0x0102]) ready)
      (fun t => t.result == .bytes [0x01, 0x10, 0x02, 0x00, 0x00, 0x02, 0x04, 0x00, 0x0A, 0x01, 0x02, 0x4A, 0x9C]) = true := by
  decide +kernel
/-- V-ENC-12. -/
theorem test_encodeWrite_longest :
    (encodeWriteFrame Config.standard 1 0 127 []).length = 263 ∧ (encodeWriteFrame Config.standard 1 0 127 []).getD 6 0 = 0xFE := by
  decide +kernel
/-- V-DEC-12. -/
theorem test_decode :
    holdsAfter (exec (.decode [0x01, 0x03, 0x02, 0x11, 0x22, 0x99, 0x99, 0x3F, 0x7D]) ready)
      (fun t => t.result == .decoded (.ok { station := 1, function := 3, byteCount := 2, registerCount := 1, values := [0x1122] }))
      = true := by decide +kernel
/-- V-DEC-3: the other byte order. -/
theorem test_decode_order :
    decodeCandidate { Config.standard with rxCrcHiFirst := false } good = .invalidFrame ∧
    decodeCandidate { Config.standard with rxCrcHiFirst := false } [0x01, 0x03, 0x04, 0x12, 0x34, 0xAB, 0xCD, 0x00, 0x20]
      = decodeCandidate Config.standard good := by decide +kernel
/-- V-TIM-2. -/
theorem test_idletk : holdsAfter (exec (.idletk 65535) ready) (fun t => t.result == .ticks 2293725) = true := by decide +kernel

/-! ## Ticks -/

/-- V-SES-10: reset wins, nothing is read. -/
theorem test_step_reset :
    holdsAfter (step (State.given (waiting (good.take 3) 4 9) [{ rst := true, rx := some 0x55, txReady := true, host := .rd 5 }]))
      (fun t => t.phase == .idle && t.station == 0 && t.out.hRdata == 0 && t.out.busyO && t.inputs == []) = true := by decide +kernel
/-- V-SES-1 and V-SES-2: the tie, one tick apart. -/
theorem test_step_tie :
    holdsAfter (step (State.given { waiting good 34 53 with respto := 54 } [TickInput.quiet])) (fun t => t.rcode == .ok) = true ∧
    holdsAfter (step (State.given { waiting good 33 52 with respto := 53 } [TickInput.quiet])) (fun t => t.rcode == .noresp) = true := by
  decide +kernel

/-! ## Witnesses of the statements' hypotheses -/

theorem test_witness_Crc16Byte :
    (0x807E : Word) = (fun x : Word => if x.getLsbD 0 then (x >>> 1) ^^^ State.reset.cfg.crcPoly else x >>> 1)^[8]
      (0xFFFF ^^^ (0x01 : Byte).setWidth 16) := by decide +kernel
theorem test_witness_SingleBitErrors :
    Config.standard.crcPoly.getLsbD 15 = true ∧ 0 < [0x01#8].length ∧ 6 < good.length ∧ 0 < 8 ∧ 7 < 8 := by decide +kernel
theorem test_witness_CrcByteIsABijection : Config.standard.crcPoly.getLsbD 15 = true := by decide +kernel
theorem test_witness_EncodeRead :
    ([0x01, 0x03, 0x01, 0x00, 0x00, 0x02] : List Byte) = [0x01, 0x03, (0x0100 : Word).extractLsb' 8 8, (0x0100 : Word).extractLsb' 0 8,
      (2 : Word).extractLsb' 8 8, (2 : Word).extractLsb' 0 8] ∧
    (0xF7C5 : Word) = crcOf ready.cfg [0x01, 0x03, 0x01, 0x00, 0x00, 0x02] := by decide +kernel
theorem test_witness_EncodeWrite :
    ((127 : Word).toNat ≤ 127 ∧ (List.replicate 127 (0 : Word)).length = (127 : Word).toNat) ∧
    ((0 : Word).toNat ≤ 127 ∧ ([] : List Word).length = (0 : Word).toNat) := by decide +kernel
/-- One candidate frame for each clause: V-DEC-5, V-DEC-2, V-DEC-8 and V-DEC-7 (the shortest frame, its region ending at the checksum). -/
theorem test_witness_DecodeChecks :
    ([0x01, 0x03, 0x00, 0xF0] : List Byte).length < 5 ∧
    (5 ≤ [0x01#8, 0x03, 0xC8, 0x00, 0x00].length ∧ crcOf Config.standard [0x01, 0x03, 0xC8] ≠ 0x00#8 ++ 0x00#8) ∧
    (5 ≤ [0x01#8, 0x83, 0x02, 0xF1, 0xC0].length ∧ crcOf Config.standard [0x01, 0x83, 0x02] = 0xF1#8 ++ 0xC0#8 ∧
      5 - 2 < 3 + (0x02#8).toNat) ∧
    (5 ≤ [0x01#8, 0x03, 0x00, 0xF0, 0x20].length ∧ crcOf Config.standard [0x01, 0x03, 0x00] = 0xF0#8 ++ 0x20#8 ∧
      3 + (0x00#8).toNat ≤ 5 - 2) := by decide +kernel
theorem test_witness_DecodeInvertsEncode :
    (Instr.reqRead 0x01 0x0100 2).wellFormed Config.standard = true ∧
    encode Config.standard (.reqRead 0x01 0x0100 2) = some (.request [0x01, 0x03, 0x01, 0x00, 0x00, 0x02, 0xC5, 0xF7]) := by decide +kernel
theorem test_witness_DecodedFramesEncodeBack :
    decode Config.standard (.request [0x01, 0x03, 0x01, 0x00, 0x00, 0x02, 0xC5, 0xF7]) = .ok (.reqRead 0x01 0x0100 2) ∧
    decode Config.standard (.response [0x01, 0x03, 0x00, 0xF0, 0x20])
      = .ok (.resp { station := 1, function := 3, byteCount := 0, data := [] }) := by decide +kernel
theorem test_witness_DecodeAnswersWellFormed :
    decode Config.standard (.port (.wr 0x000 0)) = .ok (.startRefuse 0) := by decide +kernel
theorem test_witness_DecodeReadsBack :
    (254 : Byte).toNat ≤ (List.replicate 254 (0 : Byte)).length ∧ (0 : Byte).toNat ≤ ([] : List Byte).length := by decide +kernel
theorem test_witness_HostReads :
    ((0x080 : HostIndex).toNat = 0x80 + (0 : Fin 127).val ∧ (0x0FE : HostIndex).toNat = 0x80 + (126 : Fin 127).val) ∧
    ((0x100 : HostIndex).toNat = 0x100 + (0 : Fin 127).val ∧ (0x17E : HostIndex).toNat = 0x100 + (126 : Fin 127).val) ∧
    0x0A ≤ (0x00A : HostIndex).toNat ∧ (0x07F : HostIndex).toNat ≤ 0x7F ∧ (0x0FF : HostIndex).toNat = 0xFF ∧
    0x17F ≤ (0x17F : HostIndex).toNat ∧ (0x000 : HostIndex).toNat = 0x00 ∧ (0x009 : HostIndex).toNat = 0x09 := by decide +kernel
theorem test_witness_Rhead : finished.rcode = .ok ∧ ready.rcode ≠ .ok := by decide +kernel
theorem test_witness_HostWrites :
    ready.phase = .idle ∧ (sending 0).phase ≠ .idle ∧ (0x0FE : HostIndex).toNat = 0x80 + (126 : Fin 127).val ∧
    (0x002 : HostIndex).toNat ≠ 0x00 ∧ 0xFF ≤ (0x0FF : HostIndex).toNat := by decide +kernel
theorem test_witness_ActiveBlock : (waiting [] 0 0).phase ≠ .idle ∧ (0x001 : HostIndex).toNat ≠ 0 := by decide +kernel
/-- Each cause, with the checks before it passed. -/
theorem test_witness_StartIsRefused :
    (sending 0).phase ≠ .idle ∧ (ready.phase = .idle ∧ (4 : Byte) ≠ 0x03 ∧ (4 : Byte) ≠ 0x10) ∧
    (State.reset.phase = .idle ∧ State.reset.bauddiv.toNat = 0 ∧ State.reset.respto.toNat = 0) ∧
    ({ ready with count := 128 }.phase = .idle ∧ 0 < ready.bauddiv.toNat ∧ 0 < ready.respto.toNat ∧
      127 < { ready with count := 128 }.count.toNat) := by decide +kernel
theorem test_witness_StartRead : ready.phase = .idle ∧ 0 < ready.bauddiv.toNat ∧ 0 < ready.respto.toNat := by decide +kernel
theorem test_witness_StartWrite :
    { ready with count := 127 }.phase = .idle ∧ 0 < ready.bauddiv.toNat ∧ 0 < ready.respto.toNat ∧
    { ready with count := 127 }.count.toNat ≤ 127 := by decide +kernel
theorem test_witness_Ack : finished.phase = .idle ∧ finished.done = true ∧ (sending 0).phase ≠ .idle := by decide +kernel
theorem test_witness_RequestFramesDrive : (sending 0).phase = .tx ∧ (waiting [] 0 0).phase ≠ .tx := by decide +kernel
theorem test_witness_TxByte :
    (sending 6).phase = .tx ∧ (0xC5 : Byte) = (reqFrame (sending 6)).getD (sending 6).txi.toNat 0 ∧
    (sending 6).txi.toNat + 1 < reqLen (sending 6) := by decide +kernel
theorem test_witness_TxLast :
    (sending 7).phase = .tx ∧ (sending 7).txi.toNat + 1 = reqLen (sending 7) ∧
    (0xF7 : Byte) = (reqFrame (sending 7)).getD (reqLen (sending 7) - 1) 0 := by decide +kernel
theorem test_witness_RequestFrame : (sending 0).fn = 0x03 ∧ { sending 0 with fn := 0x10 }.fn = 0x10 := by decide +kernel
theorem test_witness_RxByte :
    (waiting (good.take 8) 0 0).phase = .wait ∧ (waiting (good.take 8) 0 0).len < (waiting [] 0 0).cfg.maxFrame ∧
    Memory.wf (waiting (good.take 8) 0 0).fb = true := by decide +kernel
theorem test_witness_RxDrop :
    { waiting (good.take 8) 0 0 with cfg := { Config.standard with maxFrame := 8 } }.phase = .wait ∧ (waiting (good.take 8) 0 0).len = 8 := by
  decide +kernel
theorem test_witness_CharactersOutsideWait : ready.phase ≠ .wait ∧ (sending 0).phase ≠ .wait := by decide +kernel
theorem test_witness_SilTick :
    (waiting [1] 33 0).phase = .wait ∧ (waiting [1] 33 0).sil.toNat + 1 < 35 * (waiting [1] 33 0).bauddiv.toNat := by decide +kernel
/-- A state for each clause at the first tick on which the timeout is due. -/
theorem test_witness_IdleExpire :
    (waiting [] 34 0).phase = .wait ∧ 35 * (waiting [] 34 0).bauddiv.toNat ≤ (waiting [] 34 0).sil.toNat + 1 ∧ (waiting [] 34 0).len = 0 ∧
    decodeCandidate Config.standard (candidate (waiting (good.take 4) 34 0)) = .shortFrame ∧
    decodeCandidate Config.standard (candidate (waiting (good.take 8) 34 0)) = .invalidFrame ∧
    decodeCandidate Config.standard (candidate (waiting [0x01, 0x83, 0x02, 0xF1, 0xC0] 34 0)) = .badLength ∧
    decodeCandidate Config.standard (candidate (waiting good 34 0))
      = .ok { station := 1, function := 3, byteCount := 4, registerCount := 2, values := [0x1234, 0xABCD] } := by decide +kernel
/-- A full buffer: eight bytes received and room for no more. -/
def full (sil : BitVec 22) : State := { waiting (good.take 8) sil 5 with cfg := { Config.standard with maxFrame := 8 } }

/-- Each clause at its boundary: a character on the tick on which the timeout is due, one that makes
the buffer full, one that finds it full, the last silent tick before the timeout and the first on which it is due. -/
theorem test_witness_Assembler :
    go.rst = false ∧ ready.phase ≠ .wait ∧ (waiting [1] 34 0).phase = .wait ∧
    (tickOps (char 7) (waiting [1] 34 0)).filter isAssemblerOp = [.rxByte 7] ∧
    (tickOps (char 7) { full 34 with len := 7 }).filter isAssemblerOp = [.rxByte 7] ∧
    (full 34).len = (full 34).cfg.maxFrame ∧ (tickOps (char 7) (full 34)).filter isAssemblerOp = [.rxDrop] ∧
    (waiting [1] 33 0).sil.toNat + 1 < 35 * (waiting [1] 33 0).bauddiv.toNat ∧
    (tickOps go (waiting [1] 33 0)).filter isAssemblerOp = [.silTick] ∧
    35 * (waiting [1] 34 0).bauddiv.toNat ≤ (waiting [1] 34 0).sil.toNat + 1 ∧
    (tickOps go (waiting [1] 34 0)).filter isAssemblerOp = [.idleExpire] ∧
    (tickOps (char 7) (sending 0)).filter isAssemblerOp = [] := by decide +kernel
theorem test_witness_ResponseFrames :
    (waiting good 34 0).phase = .wait ∧ 35 * (waiting good 34 0).bauddiv.toNat ≤ (waiting good 34 0).sil.toNat + 1 ∧
    RespFrame.wellFormed (waiting good 34 0).cfg { station := 1, function := 3, byteCount := 4, data := [0x12, 0x34, 0xAB, 0xCD] } = true ∧
    candidate (waiting good 34 0) = encodeRespFrame (waiting good 34 0).cfg
      { station := 1, function := 3, byteCount := 4, data := [0x12, 0x34, 0xAB, 0xCD] } := by decide +kernel
theorem test_witness_CompleteOk :
    (waiting good 34 0).phase = .wait ∧
    ParsedFrame.wellFormed { station := 1, function := 3, byteCount := 255, registerCount := 127, values := List.replicate 127 7 } = true := by
  decide +kernel
theorem test_witness_WaitTick :
    (waiting [] 0 998).phase = .wait ∧ (waiting [] 0 998).waitc.toNat + 1 < (waiting [] 0 998).respto.toNat := by decide +kernel
theorem test_witness_WaitExpire :
    (waiting [] 0 999).phase = .wait ∧ (waiting [] 0 999).respto.toNat ≤ (waiting [] 0 999).waitc.toNat + 1 := by decide +kernel
theorem test_witness_EveryIndexReadsZero : ∃ t, exec .reset finished = .next t := ⟨_, rfl⟩
theorem test_witness_StepRunsTheHostInstruction :
    (State.given ready [host (.rd 1)]).inputs = host (.rd 1) :: [] ∧ (host (.rd 1)).rst = false ∧
    decode (State.given ready [host (.rd 1)]).cfg (.port (host (.rd 1)).host) = .ok (.hrd 1) ∧ ready.phase = .idle ∧
    (host (.rd 1)).rx = none := by decide +kernel
theorem test_witness_StepRunsTheRequestFrame :
    (State.given (sending 0) [TickInput.quiet]).inputs = TickInput.quiet :: [] ∧ (sending 0).phase = .tx ∧
    decode (sending 0).cfg (.request (reqFrame (sending 0))) = .ok (.reqRead 1 0x0100 2) := by decide +kernel
theorem test_witness_StepRunsTheResponseFrame :
    (State.given (waiting good 34 0) [TickInput.quiet]).inputs = TickInput.quiet :: [] ∧ (waiting good 34 0).phase = .wait ∧
    idleTicksOf (waiting good 34 0) ≤ (waiting good 34 0).sil.toNat + 1 ∧
    decode (waiting good 34 0).cfg (.response (candidate (waiting good 34 0)))
      = .ok (.resp { station := 1, function := 3, byteCount := 4, data := [0x12, 0x34, 0xAB, 0xCD] }) := by decide +kernel

/-- A legal state with an operation being sent. -/
theorem boundary_sending : BoundaryInv (State.given (sending 0) (List.replicate 8 go)) where
  cfgLegal := by decide +kernel
  bufferWf := by decide +kernel
  bufferRange := by decide +kernel
  idleClear := by decide +kernel
  txClear := by decide +kernel
  waitBounds := by decide +kernel
  receiving := by decide +kernel
  doneRecord := by decide +kernel
  doneIdle := by decide +kernel
  activeLegal := by decide +kernel
  lenBound := by decide +kernel
  causeNone := by decide +kernel
  resultCount := by decide +kernel

/-- A legal state with an operation waiting for its reply. -/
theorem boundary_waiting_here : BoundaryInv (waiting [] 0 0) where
  cfgLegal := by decide +kernel
  bufferWf := by decide +kernel
  bufferRange := by decide +kernel
  idleClear := by decide +kernel
  txClear := by decide +kernel
  waitBounds := by decide +kernel
  receiving := by decide +kernel
  doneRecord := by decide +kernel
  doneIdle := by decide +kernel
  activeLegal := by decide +kernel
  lenBound := by decide +kernel
  causeNone := by decide +kernel
  resultCount := by decide +kernel

/-- The inputs do not matter to the invariants. -/
theorem boundary_given {s : State} (b : BoundaryInv s) (inputs : List TickInput) : BoundaryInv (State.given s inputs) :=
  { b with }

theorem boundary_waiting (inputs : List TickInput) : BoundaryInv (State.given (waiting [] 0 0) inputs) :=
  boundary_given boundary_waiting_here inputs

/-- Legal states with a full buffer, at the last value of `SIL` and at the one before it. -/
theorem boundary_full : BoundaryInv (full 34) where
  cfgLegal := by decide +kernel
  bufferWf := by decide +kernel
  bufferRange := by decide +kernel
  idleClear := fun h => nomatch h
  txClear := fun h => nomatch h
  waitBounds := by decide +kernel
  receiving := by decide +kernel
  doneRecord := by decide +kernel
  doneIdle := fun h => nomatch h
  activeLegal := by decide +kernel
  lenBound := by decide +kernel
  causeNone := fun _ => rfl
  resultCount := by decide +kernel

theorem boundary_full_before : BoundaryInv (full 33) :=
  { boundary_full with idleClear := (fun h => nomatch h), txClear := (fun h => nomatch h), waitBounds := by decide +kernel }

theorem test_witness_StepKeepsTheBoundaryInvariant :
    BoundaryInv (State.given (waiting [] 0 0) [char 5]) ∧
    holdsAfter (step (State.given (waiting [] 0 0) [char 5])) (fun t => t.len == 1) = true :=
  ⟨boundary_waiting _, by decide +kernel⟩
theorem test_witness_ParametersNeverChange : ∃ t, step (State.given ready [go]) = .next t :=
  exists_next (P := fun _ => true) (by decide +kernel)
/-- A step for each transition: an accepted `START`, the last byte, and the wait used up. -/
theorem test_witness_PhaseMoves :
    (currentInput (State.given ready [host (.wr 0 3)])).rst = false ∧
    holdsAfter (step (State.given ready [host (.wr 0 3)])) (fun t => t.phase == .tx) = true ∧
    holdsAfter (step (State.given (sending 7) [go])) (fun t => t.phase == .wait) = true ∧
    holdsAfter (step (State.given (waiting [] 0 999) [go])) (fun t => t.phase == .idle && t.done) = true := by decide +kernel
theorem test_witness_OperandsStay :
    (sending 0).phase ≠ .idle ∧ (currentInput (State.given (sending 0) [host (.wr 5 9)])).rst = false ∧
    holdsAfter (step (State.given (sending 0) [host (.wr 5 9)])) (fun t => t.station == 1) = true := by decide +kernel
theorem test_witness_ResetWins :
    (State.given (sending 0) [{ go with rst := true }]).inputs = { go with rst := true } :: [] ∧ { go with rst := true }.rst = true ∧
    holdsAfter (step (State.given (sending 0) [{ go with rst := true }])) (fun t => t.out.busyO && t.out.txValid && t.phase == .idle) = true := by
  decide +kernel
theorem test_witness_HostReadsHaveNoSideEffect :
    holdsAfter (step { finished with inputs := { go with host := .rd 1 } :: [] }) (fun t => t.out.hRdata == 0x00030022) = true ∧
    holdsAfter (step { finished with inputs := { go with host := .none } :: [] }) (fun t => t.out.hRdata == 0) = true := by decide +kernel
theorem test_witness_TxReady :
    (waiting [] 0 0).phase ≠ .tx ∧ BoundaryInv (State.given (sending 0) (List.replicate 8 go)) ∧
    holdsAfter (step (State.given (sending 0) (List.replicate 8 go))) (fun t => t.out.transferred == some 1 && t.out.busyO) = true ∧
    holdsAfter (step (State.given finished [host (.wr 9 0)])) (fun t => t.out.doneO && !t.out.busyO && !t.done) = true :=
  ⟨by decide +kernel, boundary_sending, by decide +kernel⟩
/-- The tie of V-SES-1, and each discard on that tick. -/
theorem test_witness_ValidFrameWins :
    ({ waiting good 34 53 with respto := 54 }.phase = .wait ∧ 0 < (waiting good 34 53).len ∧ go.rx = none ∧
      idleTicksOf (waiting good 34 53) ≤ (waiting good 34 53).sil.toNat + 1 ∧
      { waiting good 34 53 with respto := 54 }.respto.toNat ≤ { waiting good 34 53 with respto := 54 }.waitc.toNat + 1) ∧
    decodeCandidate Config.standard (candidate (waiting good 34 53))
      = .ok { station := 1, function := 3, byteCount := 4, registerCount := 2, values := [0x1234, 0xABCD] } ∧
    decodeCandidate Config.standard (candidate (waiting (good.take 8) 34 53)) = .invalidFrame ∧
    decodeCandidate Config.standard (candidate (waiting (good.take 4) 34 53)) = .shortFrame ∧
    decodeCandidate Config.standard (candidate (waiting [0x01, 0x83, 0x02, 0xF1, 0xC0] 34 53)) = .badLength := by decide +kernel
theorem test_witness_DiagnosticFlags :
    (currentInput (State.given { waiting [] 0 0 with ovf := true } [go])).rst = false ∧
    holdsAfter (step (State.given { waiting [] 0 0 with ovf := true } [go])) (fun t => t.ovf && t.phase != .tx) = true := by decide +kernel
theorem test_witness_RequestBytesLeaveInOrder :
    BoundaryInv (State.given (sending 0) (List.replicate 8 go)) ∧ (sending 0).phase = .tx ∧ (sending 0).txi = 0 ∧
    (State.given (sending 0) (List.replicate 8 go)).inputs = List.replicate 8 go ++ [] ∧ (List.replicate 8 go).length = reqLen (sending 0) ∧
    ∀ inp ∈ List.replicate 8 go, inp.rst = false ∧ inp.txReady = true :=
  ⟨boundary_sending, by decide +kernel⟩

/-- Two characters spaced by 34 silent ticks, the most that do not part them (V-ASM-2), and 35 silent ticks after them. -/
def spacedInputs : List TickInput := char 7 :: (List.replicate 34 go ++ [char 8]) ++ List.replicate 35 go

theorem test_witness_SpacedCharacters :
    BoundaryInv (State.given (waiting [] 0 0) spacedInputs) ∧ (waiting [] 0 0).phase = .wait ∧ (waiting [] 0 0).len = 0 ∧
    (State.given (waiting [] 0 0) spacedInputs).inputs = spacedInputs ++ [] ∧ (∀ inp ∈ spacedInputs, inp.rst = false) ∧
    spacedInputs.map (·.rx) = some 7 :: ([((34, 8) : Nat × Byte)].flatMap fun p => List.replicate p.1 none ++ [some p.2])
      ++ List.replicate (idleTicksOf (waiting [] 0 0)) none ∧
    [((34, 8) : Nat × Byte)].length + 1 ≤ (waiting [] 0 0).cfg.maxFrame ∧
    (∀ p ∈ [((34, 8) : Nat × Byte)], p.1 < idleTicksOf (waiting [] 0 0)) ∧
    (waiting [] 0 0).waitc.toNat + spacedInputs.length ≤ (waiting [] 0 0).respto.toNat :=
  ⟨boundary_waiting _, by decide +kernel⟩
theorem test_witness_WaitEnds :
    BoundaryInv (State.given (waiting [] 0 0) (List.replicate 1000 go)) ∧
    (State.given (waiting [] 0 0) (List.replicate 1000 go)).inputs = List.replicate 1000 go ++ [] ∧
    (List.replicate 1000 go).length = (waiting [] 0 0).respto.toNat - (waiting [] 0 0).waitc.toNat ∧
    ∀ inp ∈ List.replicate 1000 go, inp.rst = false :=
  ⟨boundary_waiting _, by decide +kernel⟩
/-- States that differ in a hidden byte of the buffer and a hidden result word. -/
theorem test_witness_Unspecified :
    SameVisible (State.given (waiting [1] 0 0) [go])
      { State.given (waiting [1] 0 0) [go] with fb := [(0, 1), (9, 4)], rword := Vector.replicate 127 5 } ∧
    Memory.wf (waiting [1] 0 0).fb = true ∧ Memory.wf [(0, 1), (9, 4)] = true ∧
    ∃ t, step (State.given (waiting [1] 0 0) [go]) = .next t :=
  ⟨⟨rfl, by decide +kernel, by decide +kernel⟩, by decide +kernel, by decide +kernel,
    exists_next (P := fun _ => true) (by decide +kernel)⟩

/-- A state for each clause: the first character of a cycle, a character that finds the buffer full, the last silent tick before the
timeout and the first on which it is due. -/
theorem test_witness_WaitTicks :
    BoundaryInv (State.given (waiting [] 0 0) [char 7]) ∧ BoundaryInv (State.given (full 34) [char 7]) ∧
    BoundaryInv (State.given (full 33) [go]) ∧ BoundaryInv (State.given (full 34) [go]) ∧
    holdsAfter (step (State.given (waiting [] 0 0) [char 7])) (fun t => t.asm == .receiving && t.len == 1) = true ∧
    holdsAfter (step (State.given (full 34) [char 7])) (fun t => t.asm == .receiving && t.len == 8 && t.sil == 0 && t.ovf) = true ∧
    holdsAfter (step (State.given (full 33) [go])) (fun t => t.asm == .receiving && t.len == 8 && t.sil == 34) = true ∧
    holdsAfter (step (State.given (full 34) [go])) (fun t => t.asm == .idle && t.len == 0 && t.sil == 0 && t.badcrc) = true :=
  ⟨boundary_waiting _, boundary_given boundary_full _, boundary_given boundary_full_before _, boundary_given boundary_full _,
    by decide +kernel⟩

end Sys2Proof.Tests
end

/-! SUPPORT. A step as a function of the state: what each operation of a tick leaves, and the tick as the outputs, then the host
operation, then the phase action (spec/45_session_and_host.md R280). -/

namespace Sys2Proof.Machine

/-- The state that an operation leaves. The two other outcomes do not occur (`exec_eq_after`). -/
def after (i : Instr) (s : State) : State :=
  match exec i s with
  | .next t => t
  | .fault _ => s
  | .refused _ => s

/-- Every operation answers a next state (R280: the block has no stuck state). -/
theorem exec_eq_after (i : Instr) (s : State) : exec i s = .next (after i s) := by
  cases i <;> rfl

/-! What each operation that a tick selects leaves, from its meaning. -/

@[simp] theorem after_txByte (s : State) :
    after .txByte s = if txByteSelected s then { transferByte s with txi := s.txi + 1 } else s := rfl
@[simp] theorem after_txStall (s : State) : after .txStall s = offerFrame (reqFrame s) s := rfl
@[simp] theorem after_txLast (s : State) :
    after .txLast s =
      if txLastSelected s then { clearAssembler (transferByte s) with phase := .wait, txi := 0, waitc := 0 } else s := rfl
@[simp] theorem after_rxByte (data : Byte) (s : State) :
    after (.rxByte data) s =
      if rxByteSelected s then { s with fb := memWrite s.fb s.len data, len := s.len + 1, asm := .receiving, sil := 0 }
      else s := rfl
@[simp] theorem after_rxDrop (s : State) :
    after .rxDrop s = if rxDropSelected s then { flagOverflow s with asm := .receiving, sil := 0 } else s := rfl
@[simp] theorem after_rxDiscard (s : State) : after .rxDiscard s = s := rfl
@[simp] theorem after_silTick (s : State) :
    after .silTick s = if silTickSelected s then { s with sil := s.sil + 1 } else s := rfl
@[simp] theorem after_idleExpire (s : State) :
    after .idleExpire s = if idleExpireSelected s then endCycle (candidate s) s else s := rfl
@[simp] theorem after_waitTick (s : State) :
    after .waitTick s = if waitTickSelected s then { s with waitc := s.waitc + 1 } else s := rfl
@[simp] theorem after_waitExpire (s : State) :
    after .waitExpire s = if waitExpireSelected s then complete .noresp s else s := rfl

/-- The state that a list of operations leaves, performed one after another. -/
def afterAll (l : List Instr) (s : State) : State := l.foldl (fun t i => after i t) s

@[simp] theorem afterAll_nil (s : State) : afterAll [] s = s := rfl

@[simp] theorem afterAll_cons (i : Instr) (l : List Instr) (s : State) :
    afterAll (i :: l) s = afterAll l (after i s) := rfl

@[simp] theorem afterAll_append (l r : List Instr) (s : State) :
    afterAll (l ++ r) s = afterAll r (afterAll l s) := List.foldl_append

theorem performAll_eq_afterAll (l : List Instr) (s : State) : performAll l s = .next (afterAll l s) := by
  induction l generalizing s with
  | nil => rfl
  | cons i l ih => rw [performAll_cons (exec_eq_after i s), ih, afterAll_cons]

/-- What every operation of a list keeps, the list keeps. -/
theorem afterAll_induction {P : State → Prop} {l : List Instr} (hstep : ∀ i ∈ l, ∀ u, P u → P (after i u)) {s : State}
    (hs : P s) : P (afterAll l s) := by
  induction l generalizing s with
  | nil => exact hs
  | cons i l ih => exact ih (fun j hj => hstep j (by simp [hj])) (hstep i (by simp) s hs)

/-- What every operation of a list keeps between two states, the list keeps. -/
theorem afterAll_induction₂ {R : State → State → Prop} {l : List Instr}
    (hstep : ∀ i ∈ l, ∀ u v, R u v → R (after i u) (after i v)) {s t : State} (h : R s t) :
    R (afterAll l s) (afterAll l t) := by
  induction l generalizing s t with
  | nil => exact h
  | cons i l ih => exact ih (fun j hj => hstep j (by simp [hj])) (hstep i (by simp) s t h)

/-! The outputs of the tick. -/

/-- The state with the outputs of the tick set, on which its operations are performed (R154, R280). -/
def offered (s : State) : State := offerFrame (reqFrame s) (sampled s)

/-- Of the state before the tick, `offered` writes the model's own fields only. -/
theorem offered_frame (s : State) :
    offered s = { s with inputs := s.inputs.tail, tick := s.tick + 1, out := (offered s).out } := by
  unfold offered
  rcases offerFrame_cases (reqFrame s) (sampled s) with ⟨-, h⟩ | ⟨-, h⟩ <;> rw [h] <;> rfl

@[simp] theorem offered_phase (s : State) : (offered s).phase = s.phase := by rw [offered_frame]

/-- With no request defined for `FN` nothing is performed, and the port shows 0 either way. -/
theorem afterAll_offerOps (s : State) : afterAll (offerOps s) (sampled s) = offered s := by
  unfold offerOps offered
  by_cases hp : s.phase = .tx
  · by_cases hr : s.fn = fnRead
    · simp only [hp, requestInstr, reqFrame, hr, if_true]; rfl
    · by_cases hw : s.fn = fnWrite
      · simp only [hp, requestInstr, reqFrame, hw, if_true]; rfl
      · rw [if_pos hp, requestInstr, reqFrame, if_neg hr, if_neg hr, if_neg hw, if_neg hw]
        simp [hp, offerFrame, frameByte, sampled]
  · simp [hp, offerFrame]

/-! The host operation of the tick. -/

/-- What the host operation of a tick leaves (R261, R262). -/
def afterHost (op : HostOp) (s : State) : State :=
  match op with
  | .none => s
  | .rd idx => { s with out := { s.out with hRdata := readHost s idx } }
  | .wr idx data => writeHost idx data s

/-- A function code other than the two is always refused, so `START.REFUSE` is `START` there. -/
theorem after_startRefuse {fn : Byte} (hr : fn ≠ fnRead) (hw : fn ≠ fnWrite) (s : State) :
    after (.startRefuse fn) s = startCommand fn s := by
  have hl : legality fn s ≠ .none := fun h => by
    obtain ⟨-, hfn, -⟩ := (legality_none fn s).1 h
    exact hfn.elim hr hw
  change (if legality fn s = .none then s else _) = if legality fn s = .none then _ else _
  rw [if_neg hl, if_neg hl]

theorem after_ack (s : State) (data : HostData) : after .ack s = writeHost 0x009 data s := by
  change ackCommand s = _
  by_cases h : s.phase = .idle <;> simp [ackCommand, writeHost, h]

/-- The operation that the decoder reads from the port does what the port asks for. -/
theorem afterAll_hostOps (inp : TickInput) (s : State) : afterAll (hostOps inp) s = afterHost inp.host s := by
  unfold hostOps
  cases inp.host with
  | none => rfl
  | rd idx => rfl
  | wr idx data =>
    simp only [decodePort, afterHost]
    split
    · next h0 =>
      subst h0
      change _ = startCommand (low8 data) s
      split
      · next hr => rw [low8, hr]; rfl
      · next hr =>
        split
        · next hw => rw [low8, hw]; rfl
        · next hw => exact after_startRefuse hr hw s
    · split
      · next h9 => subst h9; exact after_ack s data
      · rfl

/-! The tick. -/

/-- A tick without reset: the outputs, the host operation, the phase action (R280). -/
theorem step_eq_of_no_reset {s : State} (h : (currentInput s).rst = false) :
    step s = .next (afterAll (phaseOps (currentInput s) s) (afterHost (currentInput s).host (offered s))) := by
  rw [step, performAll_eq_afterAll, tickOps, afterAll_append, afterAll_offerOps, h, if_neg Bool.false_ne_true,
    afterAll_append, afterAll_hostOps]

/-- A tick with reset: the outputs, and nothing but the reset (spec/70_reset_and_hazards.md R340). -/
theorem step_eq_of_reset {s : State} (h : (currentInput s).rst = true) : step s = .next (resetBlock (offered s)) := by
  rw [step, performAll_eq_afterAll, tickOps, afterAll_append, afterAll_offerOps, h, if_pos rfl]
  rfl

/-- The two ways a tick can go. -/
theorem step_cases {s t : State} (h : step s = .next t) :
    ((currentInput s).rst = true ∧ t = resetBlock (offered s)) ∨
    ((currentInput s).rst = false ∧
      t = afterAll (phaseOps (currentInput s) s) (afterHost (currentInput s).host (offered s))) := by
  cases hr : (currentInput s).rst with
  | true => exact .inl ⟨rfl, by simpa [step_eq_of_reset hr] using h.symm⟩
  | false => exact .inr ⟨rfl, by simpa [step_eq_of_no_reset hr] using h.symm⟩

/-! The host operation and the phase action, by the phase at the start of the tick. -/

/-- While the block is active, a host operation writes the verdict on a command and the read port, and nothing else (R263). -/
theorem afterHost_active {s : State} (h : s.phase ≠ .idle) (op : HostOp) :
    afterHost op s = { s with cmderr := (afterHost op s).cmderr, cmdcause := (afterHost op s).cmdcause,
                              out := (afterHost op s).out } := by
  cases op with
  | none => rfl
  | rd idx => rfl
  | wr idx data =>
    change writeHost idx data s = { s with cmderr := (writeHost idx data s).cmderr, cmdcause := (writeHost idx data s).cmdcause,
                                           out := (writeHost idx data s).out }
    rcases writeHost_cases idx data s with ⟨-, hw⟩ | ⟨-, -, hw⟩ | ⟨-, hi, -⟩ | ⟨-, -, hi, -⟩
    · rw [hw, startCommand_busy _ h]; rfl
    · rw [hw]
    · exact absurd hi h
    · exact absurd hi h

/-- The phase action in `PHASE = IDLE` changes nothing: a character is discarded (R153). -/
theorem afterAll_discardOps (inp : TickInput) (s : State) : afterAll (discardOps inp) s = s := by
  unfold discardOps
  split <;> rfl

theorem phaseOps_idle {s : State} (h : s.phase = .idle) (inp : TickInput) : phaseOps inp s = discardOps inp := by
  rw [phaseOps, h]

theorem phaseOps_tx {s : State} (h : s.phase = .tx) (inp : TickInput) :
    phaseOps inp s = discardOps inp ++ transmitOps inp s := by
  rw [phaseOps, h]

theorem phaseOps_wait {s : State} (h : s.phase = .wait) (inp : TickInput) :
    phaseOps inp s = assemblerOp inp s :: waitOps inp s := by
  rw [phaseOps, h]

/-- The transmit operation of a tick, with what selects it (R223, R224). -/
theorem transmitOps_cases (inp : TickInput) (s : State) :
    (inp.txReady = false ∧ transmitOps inp s = [.txStall]) ∨
    (inp.txReady = true ∧ txByteSelected s ∧ transmitOps inp s = [.txByte]) ∨
    (inp.txReady = true ∧ txLastSelected s ∧ transmitOps inp s = [.txLast]) ∨
    (inp.txReady = true ∧ ¬ txByteSelected s ∧ ¬ txLastSelected s ∧ transmitOps inp s = []) := by
  unfold transmitOps
  cases inp.txReady with
  | false => exact .inl ⟨rfl, rfl⟩
  | true =>
    by_cases hb : txByteSelected s
    · exact .inr (.inl ⟨rfl, hb, if_pos hb⟩)
    · by_cases hl : txLastSelected s
      · exact .inr (.inr (.inl ⟨rfl, hl, (if_neg hb).trans (if_pos hl)⟩))
      · exact .inr (.inr (.inr ⟨rfl, hb, hl, (if_neg hb).trans (if_neg hl)⟩))

/-- The assembler's operation of a tick, with what selects it (spec/41_frame_assembler.md R178). -/
theorem assemblerOp_cases (inp : TickInput) (s : State) :
    (∃ data, inp.rx = some data ∧ s.len < s.cfg.maxFrame ∧ assemblerOp inp s = .rxByte data) ∨
    (∃ data, inp.rx = some data ∧ s.cfg.maxFrame ≤ s.len ∧ assemblerOp inp s = .rxDrop) ∨
    (inp.rx = none ∧ s.sil.toNat + 1 < idleTicksOf s ∧ assemblerOp inp s = .silTick) ∨
    (inp.rx = none ∧ idleTicksOf s ≤ s.sil.toNat + 1 ∧ assemblerOp inp s = .idleExpire) := by
  unfold assemblerOp
  cases inp.rx with
  | some data =>
    by_cases h : s.len < s.cfg.maxFrame
    · exact .inl ⟨data, rfl, h, if_pos h⟩
    · exact .inr (.inl ⟨data, rfl, by omega, if_neg h⟩)
  | none =>
    by_cases h : s.sil.toNat + 1 < idleTicksOf s
    · exact .inr (.inr (.inl ⟨rfl, h, if_pos h⟩))
    · exact .inr (.inr (.inr ⟨rfl, by omega, if_neg h⟩))

/-- The overall wait's operation of a tick, with what selects it (R281). -/
theorem waitOps_cases (inp : TickInput) (s : State) :
    (completesNow inp s = true ∧ waitOps inp s = []) ∨
    (completesNow inp s = false ∧ s.waitc.toNat + 1 < s.respto.toNat ∧ waitOps inp s = [.waitTick]) ∨
    (completesNow inp s = false ∧ s.respto.toNat ≤ s.waitc.toNat + 1 ∧ waitOps inp s = [.waitExpire]) := by
  unfold waitOps
  cases completesNow inp s with
  | true => exact .inl ⟨rfl, rfl⟩
  | false =>
    by_cases h : s.waitc.toNat + 1 < s.respto.toNat
    · exact .inr (.inl ⟨rfl, h, if_pos h⟩)
    · exact .inr (.inr ⟨rfl, by omega, if_neg h⟩)

/-- The operations of the phase action in `PHASE = TX` (spec/43_request_encoder.md R223, R224). -/
inductive IsTransmitOp : Instr → Prop
  | txByte : IsTransmitOp .txByte
  | txStall : IsTransmitOp .txStall
  | txLast : IsTransmitOp .txLast

/-- The operations of the phase action in `PHASE = WAIT` (R281). -/
inductive IsWaitOp : Instr → Prop
  | rxByte (data : Byte) : IsWaitOp (.rxByte data)
  | rxDrop : IsWaitOp .rxDrop
  | silTick : IsWaitOp .silTick
  | idleExpire : IsWaitOp .idleExpire
  | waitTick : IsWaitOp .waitTick
  | waitExpire : IsWaitOp .waitExpire

theorem isTransmitOp_of_mem {inp : TickInput} {s : State} {i : Instr} (h : i ∈ transmitOps inp s) : IsTransmitOp i := by
  rcases transmitOps_cases inp s with ⟨-, e⟩ | ⟨-, -, e⟩ | ⟨-, -, e⟩ | ⟨-, -, -, e⟩ <;> rw [e] at h
  · cases List.mem_singleton.1 h; exact .txStall
  · cases List.mem_singleton.1 h; exact .txByte
  · cases List.mem_singleton.1 h; exact .txLast
  · cases h

theorem isWaitOp_assemblerOp (inp : TickInput) (s : State) : IsWaitOp (assemblerOp inp s) := by
  rcases assemblerOp_cases inp s with ⟨data, -, -, e⟩ | ⟨_, -, -, e⟩ | ⟨-, -, e⟩ | ⟨-, -, e⟩ <;> rw [e]
  · exact .rxByte data
  · exact .rxDrop
  · exact .silTick
  · exact .idleExpire

theorem isWaitOp_of_mem {inp : TickInput} {s : State} {i : Instr} (h : i ∈ assemblerOp inp s :: waitOps inp s) :
    IsWaitOp i := by
  rcases List.mem_cons.1 h with rfl | h
  · exact isWaitOp_assemblerOp inp s
  · rcases waitOps_cases inp s with ⟨-, e⟩ | ⟨-, -, e⟩ | ⟨-, -, e⟩ <;> rw [e] at h
    · cases h
    · cases List.mem_singleton.1 h; exact .waitTick
    · cases List.mem_singleton.1 h; exact .waitExpire

theorem mem_phaseOps {inp : TickInput} {s : State} {i : Instr} (h : i ∈ phaseOps inp s) :
    i = .rxDiscard ∨ IsTransmitOp i ∨ IsWaitOp i := by
  have hdiscard : i ∈ discardOps inp → i = .rxDiscard := fun h => by
    unfold discardOps at h
    split at h
    · exact List.mem_singleton.1 h
    · cases h
  cases hp : s.phase with
  | idle => rw [phaseOps_idle hp] at h; exact .inl (hdiscard h)
  | tx =>
    rw [phaseOps_tx hp] at h
    exact (List.mem_append.1 h).imp hdiscard fun ht => .inl (isTransmitOp_of_mem ht)
  | wait => rw [phaseOps_wait hp] at h; exact .inr (.inr (isWaitOp_of_mem h))

/-- What the transmit and the wait operations keep, the phase action keeps, in every phase. -/
theorem phaseOps_induction {P : State → Prop} (htx : ∀ i u, IsTransmitOp i → P u → P (after i u))
    (hwait : ∀ i u, IsWaitOp i → P u → P (after i u)) (inp : TickInput) (s : State) {u : State} (hu : P u) :
    P (afterAll (phaseOps inp s) u) := by
  refine afterAll_induction (fun i hi v hv => ?_) hu
  rcases mem_phaseOps hi with rfl | ht | hw
  · exact hv
  · exact htx i v ht hv
  · exact hwait i v hw hv

end Sys2Proof.Machine

/-! What the host reads of the state: the fields of `STATUS` and `RHEAD` (spec/10_state.md R50, R51), and everything after reset
(R56). -/

namespace Sys2Proof.Machine

theorem readHost_status (s : State) : readHost s 0x001 = statusWord s := rfl

theorem readHost_rhead (s : State) : readHost s 0x008 = rheadWord s := rfl

/-- A write to a read-only register is ignored in every phase (spec/20_memory.md R91). -/
theorem writeHost_readOnly {idx : HostIndex} (h : idx = 0x001 ∨ idx = 0x003 ∨ idx = 0x008) (data : HostData) (s : State) :
    writeHost idx data s = s := by
  rcases h with rfl | rfl | rfl <;> exact ite_self s

/-- The pieces of `STATUS` at the bits R50 gives them: the pieces below a field are skipped, then the field stands lowest. -/
theorem statusWord_fields (s : State) :
    (statusWord s).extractLsb' 0 1 = BitVec.ofBool (busy s) ∧ (statusWord s).extractLsb' 1 1 = BitVec.ofBool s.done ∧
    (statusWord s).extractLsb' 2 2 = phaseCode s.phase ∧ (statusWord s).extractLsb' 4 1 = asmCode s.asm ∧
    (statusWord s).extractLsb' 5 2 = rcodeCode s.rcode ∧ (statusWord s).extractLsb' 7 1 = 0 ∧
    (statusWord s).extractLsb' 8 1 = BitVec.ofBool s.ovf ∧ (statusWord s).extractLsb' 9 1 = BitVec.ofBool s.badcrc ∧
    (statusWord s).extractLsb' 10 1 = BitVec.ofBool s.short ∧ (statusWord s).extractLsb' 11 1 = BitVec.ofBool s.badlen ∧
    (statusWord s).extractLsb' 12 1 = BitVec.ofBool s.cmderr ∧ (statusWord s).extractLsb' 13 3 = causeCode s.cmdcause ∧
    (statusWord s).extractLsb' 16 8 = s.fn ∧ (statusWord s).extractLsb' 24 8 = 0 := by
  unfold statusWord
  refine ⟨?_, ?_, ?_, ?_, ?_, ?_, ?_, ?_, ?_, ?_, ?_, ?_, ?_, ?_⟩ <;>
    repeat refine (BitVec.extractLsb'_append_eq_of_le (by decide)).trans ?_
  case refine_14 => exact BitVec.extractLsb'_eq_self
  all_goals exact (BitVec.extractLsb'_append_eq_of_add_le (by decide)).trans BitVec.extractLsb'_eq_self

/-- The pieces of `RHEAD` at the bits R51 gives them. -/
theorem rheadWord_fields {s : State} (h : s.rcode = .ok) :
    (rheadWord s).extractLsb' 0 8 = s.rstation ∧ (rheadWord s).extractLsb' 8 8 = s.rfunc ∧
    (rheadWord s).extractLsb' 16 8 = s.rbytes ∧ (rheadWord s).extractLsb' 24 7 = s.rcount ∧
    (rheadWord s).extractLsb' 31 1 = 0 := by
  rw [rheadWord, if_pos h]
  refine ⟨?_, ?_, ?_, ?_, ?_⟩ <;> repeat refine (BitVec.extractLsb'_append_eq_of_le (by decide)).trans ?_
  case refine_5 => exact BitVec.extractLsb'_eq_self
  all_goals exact (BitVec.extractLsb'_append_eq_of_add_le (by decide)).trans BitVec.extractLsb'_eq_self

theorem ofBool_busy (s : State) : BitVec.ofBool (busy s) = if s.phase = .idle then 0 else 1 := by
  unfold busy
  cases s.phase <;> rfl

theorem phaseCode_eq (p : Phase) : phaseCode p = if p = .idle then 0 else if p = .tx then 1 else 2 := by
  cases p <;> rfl

theorem asmCode_eq (a : Asm) : asmCode a = if a = .receiving then 1 else 0 := by
  cases a <;> rfl

theorem rcodeCode_eq (c : RCode) : rcodeCode c = if c = .none then 0 else if c = .ok then 1 else 2 := by
  cases c <;> rfl

theorem causeCode_eq (c : Cause) :
    causeCode c = if c = .none then 0 else if c = .busy then 1 else if c = .illfn then 2 else if c = .cfg then 3 else 4 := by
  cases c <;> rfl

/-- Settles O17. -/
theorem statusShowsItsFields : Obligations.StatusShowsItsFields := by
  intro s
  obtain ⟨hbusy, hdone, hphase, hasm, hrcode, hzero, hovf, hbadcrc, hshort, hbadlen, hcmderr, hcause, hfn, htop⟩ :=
    statusWord_fields s
  rw [readHost_status]
  exact ⟨hbusy.trans (ofBool_busy s), hdone, hphase.trans (phaseCode_eq _), hasm.trans (asmCode_eq _),
    hrcode.trans (rcodeCode_eq _), hzero, hovf, hbadcrc, hshort, hbadlen, hcmderr, hcause.trans (causeCode_eq _), hfn, htop,
    fun data => congrArg Host.Outcome.next (writeHost_readOnly (.inl rfl) data s)⟩

/-- Settles O18. -/
theorem rheadShowsTheParsedFrameHeader : Obligations.RheadShowsTheParsedFrameHeader := by
  intro s
  rw [readHost_rhead]
  exact ⟨rheadWord_fields, fun h => if_neg h,
    fun data => congrArg Host.Outcome.next (writeHost_readOnly (.inr (.inr rfl)) data s)⟩

/-- Settles O39: every field is that of `State.reset`, whose payload words are 0. -/
theorem resetTakesTheResetValues : Obligations.ResetTakesTheResetValues := fun _ =>
  ⟨State.reset.fb, State.reset.pword, State.reset.rword, fun i => by simp, rfl⟩

/-- What a host read depends on is 0 in the reset block: the writable registers, the fields of `STATUS`, and `RCODE`, which hides
the result. -/
theorem readHost_resetBlock (s : State) (idx : HostIndex) : readHost (resetBlock s) idx = 0 := by
  unfold readHost
  cases hostReg idx with
  | pword i => simp
  | rword i => exact if_neg fun h => nomatch h.1
  | status =>
    have hreset : statusWord State.reset = 0 := by decide
    exact hreset
  | _ => rfl

/-- Settles O40. -/
theorem everyIndexReadsZeroAfterReset : Obligations.EveryIndexReadsZeroAfterReset := by
  intro s t idx h
  obtain rfl : resetBlock s = t := Host.Outcome.next.inj h
  exact readHost_resetBlock s idx

end Sys2Proof.Machine

/-! What a tick does to the parameters (spec/00_scope.md R9), to `PHASE` (spec/10_state.md R36) and to the diagnostic flags (R48). -/

namespace Sys2Proof.Machine

section Configuration

@[simp] theorem offered_cfg (s : State) : (offered s).cfg = s.cfg := by rw [offered_frame]

@[simp] theorem offerFrame_cfg (frame : List Byte) (s : State) : (offerFrame frame s).cfg = s.cfg := by
  rw [offerFrame_frame]

@[simp] theorem transferByte_cfg (s : State) : (transferByte s).cfg = s.cfg := offerFrame_cfg (reqFrame s) s

@[simp] theorem startCommand_cfg (fn : Byte) (s : State) : (startCommand fn s).cfg = s.cfg := by
  rcases startCommand_cases fn s with ⟨-, h⟩ | ⟨-, h⟩ <;> rw [h]
  · exact acceptStart_cfg s fn
  · exact refuseStart_cfg s _

@[simp] theorem storeHost_cfg (idx : HostIndex) (data : HostData) (s : State) : (storeHost idx data s).cfg = s.cfg := by
  rw [storeHost_frame]

@[simp] theorem writeHost_cfg (idx : HostIndex) (data : HostData) (s : State) : (writeHost idx data s).cfg = s.cfg := by
  rcases writeHost_cases idx data s with ⟨-, h⟩ | ⟨-, -, h⟩ | ⟨-, -, h⟩ | ⟨-, -, -, h⟩ <;> rw [h] <;> simp

@[simp] theorem afterHost_cfg (op : HostOp) (s : State) : (afterHost op s).cfg = s.cfg := by
  cases op with
  | none => rfl
  | rd idx => rfl
  | wr idx data => exact writeHost_cfg idx data s

@[simp] theorem handOver_cfg (buf : List Byte) (s : State) : (handOver buf s).cfg = s.cfg := by
  rcases handOver_cases buf s with ⟨f, -, h⟩ | ⟨-, h⟩ | ⟨-, h⟩ | ⟨-, h⟩ <;> rw [h] <;> rfl

@[simp] theorem endCycle_cfg (buf : List Byte) (s : State) : (endCycle buf s).cfg = s.cfg := by
  rcases endCycle_cases buf s with ⟨-, h⟩ | ⟨-, h⟩ <;> rw [h] <;> simp

theorem transmitOp_keeps_cfg {i : Instr} (hi : IsTransmitOp i) (s : State) : (after i s).cfg = s.cfg := by
  cases hi with
  | txByte => rw [after_txByte]; split <;> simp
  | txStall => rw [after_txStall]; simp
  | txLast => rw [after_txLast]; split <;> simp

theorem waitOp_keeps_cfg {i : Instr} (hi : IsWaitOp i) (s : State) : (after i s).cfg = s.cfg := by
  cases hi with
  | rxByte data => rw [after_rxByte]; split <;> rfl
  | rxDrop => rw [after_rxDrop]; split <;> rfl
  | silTick => rw [after_silTick]; split <;> rfl
  | idleExpire => rw [after_idleExpire]; split <;> simp
  | waitTick => rw [after_waitTick]; split <;> rfl
  | waitExpire => rw [after_waitExpire]; split <;> rfl

/-- Settles O47: neither the outputs, the host operation, the phase action nor the reset writes the parameters. -/
theorem parametersNeverChange : Obligations.ParametersNeverChange := by
  intro s t h
  rcases step_cases h with ⟨-, rfl⟩ | ⟨-, rfl⟩
  · rw [resetBlock_cfg, offered_cfg]
  · refine phaseOps_induction (P := fun u => u.cfg = s.cfg) (fun i u hi hu => (transmitOp_keeps_cfg hi u).trans hu)
      (fun i u hi hu => (waitOp_keeps_cfg hi u).trans hu) _ s ?_
    rw [afterHost_cfg, offered_cfg]

end Configuration

section Sequencer

/-- The legality checks read nothing that the outputs of the tick write. -/
theorem legality_offered (fn : Byte) (s : State) : legality fn (offered s) = legality fn s := by
  rw [offered_frame]; rfl

/-- In `PHASE = IDLE` a host operation leaves the block idle, or is an accepted `START` (R265). -/
theorem afterHost_phase_of_idle {s : State} (h : s.phase = .idle) (op : HostOp) :
    (afterHost op s).phase = .idle ∨
    ((afterHost op s).phase = .tx ∧ ∃ data, op = .wr 0x000 data ∧ legality (low8 data) s = .none) := by
  cases op with
  | none => exact .inl h
  | rd idx => exact .inl h
  | wr idx data =>
    simp only [afterHost]
    rcases writeHost_cases idx data s with ⟨rfl, hw⟩ | ⟨-, hp, -⟩ | ⟨-, -, hw⟩ | ⟨-, -, -, hw⟩
    · rw [hw]
      rcases startCommand_cases (low8 data) s with ⟨hl, hs⟩ | ⟨-, hs⟩ <;> rw [hs]
      · exact .inr ⟨rfl, data, rfl, hl⟩
      · exact .inl h
    · exact absurd h hp
    · rw [hw]; exact .inl h
    · rw [hw, storeHost_frame]; exact .inl h

@[simp] theorem afterHost_phase_of_active {s : State} (h : s.phase ≠ .idle) (op : HostOp) :
    (afterHost op s).phase = s.phase := by
  rw [afterHost_active h]

@[simp] theorem offerFrame_phase (frame : List Byte) (s : State) : (offerFrame frame s).phase = s.phase := by
  rw [offerFrame_frame]

@[simp] theorem transferByte_phase (s : State) : (transferByte s).phase = s.phase := offerFrame_phase (reqFrame s) s

/-- The transmit operation keeps the phase, or it is `TX.LAST`. -/
theorem afterAll_transmitOps_phase (inp : TickInput) (s u : State) :
    (afterAll (transmitOps inp s) u).phase = u.phase ∨
    ((afterAll (transmitOps inp s) u).phase = .wait ∧ inp.txReady = true ∧ s.txi.toNat + 1 = reqLen s) := by
  rcases transmitOps_cases inp s with ⟨-, e⟩ | ⟨-, -, e⟩ | ⟨hr, hl, e⟩ | ⟨-, -, -, e⟩ <;> rw [e]
  · exact .inl (offerFrame_phase _ u)
  · simp only [afterAll_cons, afterAll_nil, after_txByte]
    split
    · exact .inl (transferByte_phase u)
    · exact .inl rfl
  · simp only [afterAll_cons, afterAll_nil, after_txLast]
    split
    · exact .inr ⟨rfl, hr, hl.2⟩
    · exact .inl rfl
  · exact .inl rfl

/-- How a tick that starts in `PHASE = WAIT` can stand: still waiting, or completed with a completion record (R271, R272). -/
def WaitingOrCompleted (s : State) : Prop :=
  s.phase = .wait ∨ (s.phase = .idle ∧ s.done = true ∧ s.rcode ≠ .none)

/-- The end of a receive cycle keeps the phase, or completes the operation. -/
theorem endCycle_waitingOrCompleted (buf : List Byte) {s : State} (h : s.phase = .wait) :
    WaitingOrCompleted (endCycle buf s) := by
  rcases endCycle_cases buf s with ⟨-, he⟩ | ⟨-, he⟩ <;> rw [he]
  · exact .inl h
  · rcases handOver_cases buf s with ⟨f, -, hh⟩ | ⟨-, hh⟩ | ⟨-, hh⟩ | ⟨-, hh⟩ <;> rw [hh]
    · exact .inr ⟨rfl, rfl, nofun⟩
    · exact .inl h
    · exact .inl h
    · exact .inl h

/-- Each wait operation is selected in `PHASE = WAIT` only, and keeps it or completes. -/
theorem waitOp_keeps_waitingOrCompleted {i : Instr} (hi : IsWaitOp i) {s : State} (h : WaitingOrCompleted s) :
    WaitingOrCompleted (after i s) := by
  cases hi with
  | rxByte data => rw [after_rxByte]; split <;> exact h
  | rxDrop => rw [after_rxDrop]; split <;> exact h
  | silTick => rw [after_silTick]; split <;> exact h
  | idleExpire =>
    rw [after_idleExpire]
    split
    · next hsel => exact endCycle_waitingOrCompleted _ hsel.1
    · exact h
  | waitTick => rw [after_waitTick]; split <;> exact h
  | waitExpire =>
    rw [after_waitExpire]
    split
    · exact .inr ⟨rfl, rfl, nofun⟩
    · exact h

/-- Settles O48. -/
theorem phaseMovesOnlyAsTheSequencerSays : Obligations.PhaseMovesOnlyAsTheSequencerSays := by
  intro s t hr h
  obtain rfl := Host.Outcome.next.inj ((step_eq_of_no_reset hr).symm.trans h)
  refine ⟨fun hp => ?_, fun hp => ?_, fun hp => ?_⟩
  · rw [phaseOps_idle hp, afterAll_discardOps]
    rcases afterHost_phase_of_idle ((offered_phase s).trans hp) (currentInput s).host with hi | ⟨ht, data, ho, hl⟩
    · exact .inl hi
    · exact .inr ⟨ht, data, ho, (legality_offered _ s).symm.trans hl⟩
  · have hu : (afterHost (currentInput s).host (offered s)).phase = .tx := by
      rw [afterHost_phase_of_active (by simp [hp]), offered_phase, hp]
    rw [phaseOps_tx hp, afterAll_append, afterAll_discardOps]
    exact (afterAll_transmitOps_phase _ s _).imp_left (·.trans hu)
  · have hu : (afterHost (currentInput s).host (offered s)).phase = .wait := by
      rw [afterHost_phase_of_active (by simp [hp]), offered_phase, hp]
    rw [phaseOps_wait hp]
    exact afterAll_induction (P := WaitingOrCompleted)
      (fun i hi u => waitOp_keeps_waitingOrCompleted (isWaitOp_of_mem hi)) (.inl hu)

end Sequencer

section Flags

/-- Every diagnostic flag that is set in the first state is set in the second (R48). -/
def FlagsKept (s t : State) : Prop :=
  (s.ovf = true → t.ovf = true) ∧ (s.badcrc = true → t.badcrc = true) ∧ (s.short = true → t.short = true) ∧
  (s.badlen = true → t.badlen = true)

theorem FlagsKept.refl (s : State) : FlagsKept s s := ⟨id, id, id, id⟩

theorem FlagsKept.trans {s t u : State} (h : FlagsKept s t) (h' : FlagsKept t u) : FlagsKept s u := by
  obtain ⟨hovf, hbadcrc, hshort, hbadlen⟩ := h
  obtain ⟨hovf', hbadcrc', hshort', hbadlen'⟩ := h'
  exact ⟨hovf' ∘ hovf, hbadcrc' ∘ hbadcrc, hshort' ∘ hshort, hbadlen' ∘ hbadlen⟩

theorem offered_keeps_flags (s : State) : FlagsKept s (offered s) := by
  rw [offered_frame]; exact .refl s

theorem offerFrame_keeps_flags (frame : List Byte) (s : State) : FlagsKept s (offerFrame frame s) := by
  rw [offerFrame_frame]; exact .refl s

theorem transferByte_keeps_flags (s : State) : FlagsKept s (transferByte s) := offerFrame_keeps_flags (reqFrame s) s

/-- A host operation clears no flag unless it is an accepted `START`, which leaves `PHASE = TX`. -/
theorem afterHost_keeps_flags (op : HostOp) {s : State} (h : ¬ (s.phase = .idle ∧ (afterHost op s).phase = .tx)) :
    FlagsKept s (afterHost op s) := by
  cases op with
  | none => exact .refl s
  | rd idx => exact .refl s
  | wr idx data =>
    simp only [afterHost] at h ⊢
    rcases writeHost_cases idx data s with ⟨-, hw⟩ | ⟨-, -, hw⟩ | ⟨-, -, hw⟩ | ⟨-, -, -, hw⟩ <;> rw [hw] at h ⊢
    · rcases startCommand_cases (low8 data) s with ⟨hl, hs⟩ | ⟨-, hs⟩ <;> rw [hs] at h ⊢
      · exact absurd ⟨((legality_none _ s).1 hl).1, rfl⟩ h
      · exact .refl s
    · exact .refl s
    · exact .refl s
    · rw [storeHost_frame]; exact .refl s

theorem endCycle_keeps_flags (buf : List Byte) (s : State) : FlagsKept s (endCycle buf s) := by
  rcases endCycle_cases buf s with ⟨-, he⟩ | ⟨-, he⟩ <;> rw [he]
  · exact .refl s
  · rcases handOver_cases buf s with ⟨f, -, hh⟩ | ⟨-, hh⟩ | ⟨-, hh⟩ | ⟨-, hh⟩ <;> rw [hh]
    · exact .refl s
    · exact ⟨id, id, fun _ => rfl, id⟩
    · exact ⟨id, fun _ => rfl, id, id⟩
    · exact ⟨id, id, id, fun _ => rfl⟩

theorem transmitOp_keeps_flags {i : Instr} (hi : IsTransmitOp i) (s : State) : FlagsKept s (after i s) := by
  cases hi with
  | txByte => rw [after_txByte]; split; exacts [transferByte_keeps_flags s, .refl s]
  | txStall => exact offerFrame_keeps_flags (reqFrame s) s
  | txLast => rw [after_txLast]; split; exacts [transferByte_keeps_flags s, .refl s]

theorem waitOp_keeps_flags {i : Instr} (hi : IsWaitOp i) (s : State) : FlagsKept s (after i s) := by
  cases hi with
  | rxByte data => rw [after_rxByte]; split <;> exact .refl s
  | rxDrop => rw [after_rxDrop]; split; exacts [⟨fun _ => rfl, id, id, id⟩, .refl s]
  | silTick => rw [after_silTick]; split <;> exact .refl s
  | idleExpire => rw [after_idleExpire]; split; exacts [endCycle_keeps_flags _ s, .refl s]
  | waitTick => rw [after_waitTick]; split <;> exact .refl s
  | waitExpire => rw [after_waitExpire]; split <;> exact .refl s

/-- Settles O54: only the host operation could clear a flag, as an accepted `START` in `PHASE = IDLE`; there the phase action does
nothing, so the tick would end in `PHASE = TX`. -/
theorem diagnosticFlagsAreSticky : Obligations.DiagnosticFlagsAreSticky := by
  intro s t hr h hstart
  obtain rfl := Host.Outcome.next.inj ((step_eq_of_no_reset hr).symm.trans h)
  have hhost : FlagsKept (offered s) (afterHost (currentInput s).host (offered s)) := by
    refine afterHost_keeps_flags _ fun ⟨hp, ht⟩ => hstart ?_
    rw [offered_phase] at hp
    rw [phaseOps_idle hp, afterAll_discardOps]
    exact ⟨hp, ht⟩
  exact phaseOps_induction (P := FlagsKept s) (fun i u hi hu => hu.trans (transmitOp_keeps_flags hi u))
    (fun i u hi hu => hu.trans (waitOp_keeps_flags hi u)) (currentInput s) s ((offered_keeps_flags s).trans hhost)

end Flags

end Sys2Proof.Machine

/-! The invariants of spec/10_state.md R55: they hold at reset, and each operation of a tick keeps them. -/

namespace Sys2Proof.Machine

/-! The reset state, and the operations that write no field of the invariants. -/

theorem boundaryInv_reset : BoundaryInv State.reset where
  cfgLegal := by decide
  bufferWf := rfl
  bufferRange := by simp
  idleClear := by simp
  txClear := by simp
  waitBounds := by simp
  receiving := by simp
  doneRecord := by simp
  doneIdle := by simp
  activeLegal := by simp
  lenBound := by simp
  causeNone := by simp
  resultCount := by simp

/-- Settles O45. -/
theorem boundaryInvariantHoldsAtReset : Obligations.BoundaryInvariantHoldsAtReset := boundaryInv_reset

/-- The reset keeps the parameters; everything else the invariants speak of is that of the reset state. -/
theorem BoundaryInv.resetBlock {s : State} (b : BoundaryInv s) : BoundaryInv (resetBlock s) :=
  { boundaryInv_reset with
    cfgLegal := b.cfgLegal
    bufferRange := by simp
    txClear := by simp
    lenBound := by simp }

theorem BoundaryInv.offered {s : State} (b : BoundaryInv s) : BoundaryInv (offered s) := by
  rw [offered_frame]; exact { b with }

theorem BoundaryInv.offerFrame {s : State} (b : BoundaryInv s) (frame : List Byte) : BoundaryInv (offerFrame frame s) := by
  rw [offerFrame_frame]; exact { b with }

theorem BoundaryInv.transferByte {s : State} (b : BoundaryInv s) : BoundaryInv (transferByte s) :=
  { b.offerFrame (reqFrame s) with }

/-! The host operation. -/

theorem toNat_pos {w : Nat} {x : BitVec w} (h : x ≠ 0) : 0 < x.toNat :=
  Nat.pos_of_ne_zero fun h0 => h (BitVec.eq_of_toNat_eq (by simpa using h0))


theorem BoundaryInv.refuseStart {s : State} (b : BoundaryInv s) (cause : Cause) : BoundaryInv (refuseStart cause s) :=
  { b with causeNone := nofun }

/-- A request of either function has a first byte. -/
theorem reqLen_pos {s : State} (h : s.fn = fnRead ∨ s.fn = fnWrite) : 0 < reqLen s := by
  rcases h with h | h
  · rw [reqLen_read h]; omega
  · rw [reqLen_write h]; omega

/-- The legality checks are what the invariants ask of an active block (R55 (h)). -/
theorem BoundaryInv.acceptStart {s : State} {fn : Byte} (b : BoundaryInv s) (hl : legality fn s = .none) :
    BoundaryInv (acceptStart fn s) := by
  obtain ⟨-, hfn, hbaud, hresp, hcount⟩ := (legality_none fn s).1 hl
  have hpos : 0 < reqLen (Machine.acceptStart fn s) := reqLen_pos hfn
  exact { b with
    idleClear := nofun
    txClear := fun _ => ⟨rfl, rfl, rfl, rfl, rfl, hpos⟩
    waitBounds := nofun
    receiving := by simp
    doneRecord := by simp
    doneIdle := nofun
    activeLegal := fun _ => ⟨hfn, toNat_pos hbaud, toNat_pos hresp, hcount⟩
    lenBound := Nat.zero_le _
    causeNone := fun _ => rfl }

theorem BoundaryInv.startCommand {s : State} (b : BoundaryInv s) (fn : Byte) : BoundaryInv (startCommand fn s) := by
  rcases startCommand_cases fn s with ⟨hl, h⟩ | ⟨-, h⟩ <;> rw [h]
  · exact b.acceptStart hl
  · exact b.refuseStart _

theorem BoundaryInv.acknowledge {s : State} (b : BoundaryInv s) (hp : s.phase = .idle) : BoundaryInv (acknowledge s) :=
  { b with
    txClear := fun h => absurd (hp.symm.trans h) nofun
    waitBounds := fun h => absurd (hp.symm.trans h) nofun
    doneRecord := by simp
    doneIdle := fun _ => hp }

/-- The registers a host write stores are free while the block is idle. -/
theorem BoundaryInv.storeHost {s : State} (b : BoundaryInv s) (hp : s.phase = .idle) (idx : HostIndex) (data : HostData) :
    BoundaryInv (storeHost idx data s) := by
  rw [storeHost_frame]
  exact { b with
    txClear := fun h => absurd (hp.symm.trans h) nofun
    waitBounds := fun h => absurd (hp.symm.trans h) nofun
    activeLegal := fun h => absurd hp h }

theorem BoundaryInv.writeHost {s : State} (b : BoundaryInv s) (idx : HostIndex) (data : HostData) :
    BoundaryInv (writeHost idx data s) := by
  rcases writeHost_cases idx data s with ⟨-, h⟩ | ⟨-, -, h⟩ | ⟨-, hp, h⟩ | ⟨-, -, hp, h⟩ <;> rw [h]
  · exact b.startCommand _
  · exact b
  · exact b.acknowledge hp
  · exact b.storeHost hp idx data

theorem BoundaryInv.afterHost {s : State} (b : BoundaryInv s) (op : HostOp) : BoundaryInv (afterHost op s) := by
  cases op with
  | none => exact b
  | rd idx => exact { b with }
  | wr idx data => exact b.writeHost idx data

/-! The transmit operations. -/

/-- A counter that stays below a bound of its width does not wrap (R55). -/
theorem toNat_add_one {w n : Nat} {x : BitVec w} (h : x.toNat + 1 < n) (hn : n ≤ 2 ^ w) : (x + 1).toNat = x.toNat + 1 := by
  have hlt : 1 < 2 ^ w := by omega
  have hone : (1 : BitVec w).toNat = 1 := Nat.mod_eq_of_lt hlt
  rw [BitVec.toNat_add_of_lt (by omega), hone]


theorem idleTicksOf_pos {s : State} (h : 0 < s.bauddiv.toNat) : 0 < idleTicksOf s := by
  rw [idleTicksOf, idleTicks_toNat]; omega

/-- A request has at most `9 + 2 × 127` bytes, which `TXI` can count (R37). -/
theorem BoundaryInv.reqLen_le {s : State} (b : BoundaryInv s) (hp : s.phase ≠ .idle) : reqLen s ≤ 263 := by
  obtain ⟨hfn, -, -, hcount⟩ := b.activeLegal hp
  rcases hfn with h | h
  · rw [reqLen_read h]; omega
  · have := hcount h
    rw [reqLen_write h]; omega

theorem BoundaryInv.txByte {s : State} (b : BoundaryInv s) : BoundaryInv (after .txByte s) := by
  rw [after_txByte]
  split
  · next hsel =>
    obtain ⟨hp, hlt⟩ := hsel
    have hactive : s.phase ≠ .idle := by rw [hp]; nofun
    have hle : reqLen s ≤ 2 ^ 9 := (b.reqLen_le hactive).trans (by decide)
    obtain ⟨hlen, hasm, hsil, hwaitc, hdone, -⟩ := b.txClear hp
    rw [transferByte_tx hp]
    exact { b with
      idleClear := fun h => absurd h hactive
      txClear := fun _ => ⟨hlen, hasm, hsil, hwaitc, hdone, (toNat_add_one hlt hle).trans_lt hlt⟩
      waitBounds := fun h => absurd (hp.symm.trans h) nofun }
  · exact b

theorem BoundaryInv.txLast {s : State} (b : BoundaryInv s) : BoundaryInv (after .txLast s) := by
  rw [after_txLast]
  split
  · next hsel =>
    obtain ⟨hp, -⟩ := hsel
    obtain ⟨hlen, hasm, hsil, hwaitc, hdone, -⟩ := b.txClear hp
    have hactive := b.activeLegal (by rw [hp]; nofun)
    rw [transferByte_tx hp]
    exact { b with
      idleClear := nofun
      txClear := nofun
      waitBounds := fun _ => ⟨rfl, hdone, idleTicksOf_pos hactive.2.1, hactive.2.2.1⟩
      receiving := by simp
      doneIdle := fun h => absurd (hdone.symm.trans h) nofun
      activeLegal := fun _ => hactive
      lenBound := Nat.zero_le _ }
  · exact b

theorem BoundaryInv.transmitOp {s : State} (b : BoundaryInv s) {i : Instr} (hi : IsTransmitOp i) : BoundaryInv (after i s) := by
  cases hi with
  | txByte => exact b.txByte
  | txStall => exact b.offerFrame _
  | txLast => exact b.txLast

/-! The wait operations. -/

theorem BoundaryInv.rxByte {s : State} (b : BoundaryInv s) (data : Byte) : BoundaryInv (after (.rxByte data) s) := by
  rw [after_rxByte]
  split
  · next hsel =>
    obtain ⟨hp, hroom⟩ := hsel
    obtain ⟨htxi, hdone, -, hwaitc⟩ := b.waitBounds hp
    obtain ⟨-, hbaud, -⟩ := b.activeLegal (by rw [hp]; nofun)
    exact { b with
      bufferWf := memWrite_wf _ _ b.bufferWf
      bufferRange := fun c hc => (memWrite_mem hc).elim (fun h => h ▸ hroom) (b.bufferRange c)
      idleClear := fun h => absurd (hp.symm.trans h) nofun
      txClear := fun h => absurd (hp.symm.trans h) nofun
      waitBounds := fun _ => ⟨htxi, hdone, idleTicksOf_pos hbaud, hwaitc⟩
      receiving := by simp
      lenBound := hroom }
  · exact b

theorem BoundaryInv.rxDrop {s : State} (b : BoundaryInv s) : BoundaryInv (after .rxDrop s) := by
  rw [after_rxDrop]
  split
  · next hsel =>
    obtain ⟨hp, hfull⟩ := hsel
    obtain ⟨htxi, hdone, -, hwaitc⟩ := b.waitBounds hp
    obtain ⟨-, hbaud, -⟩ := b.activeLegal (by rw [hp]; nofun)
    have hlen : 0 < s.len := by
      have := b.cfgLegal
      simp only [Config.legal, Bool.and_eq_true, decide_eq_true_eq] at this
      omega
    exact { b with
      idleClear := fun h => absurd (hp.symm.trans h) nofun
      txClear := fun h => absurd (hp.symm.trans h) nofun
      waitBounds := fun _ => ⟨htxi, hdone, idleTicksOf_pos hbaud, hwaitc⟩
      receiving := iff_of_true rfl hlen }
  · exact b

theorem BoundaryInv.silTick {s : State} (b : BoundaryInv s) : BoundaryInv (after .silTick s) := by
  rw [after_silTick]
  split
  · next hsel =>
    obtain ⟨hp, hlt⟩ := hsel
    obtain ⟨htxi, hdone, -, hwaitc⟩ := b.waitBounds hp
    exact { b with
      idleClear := fun h => absurd (hp.symm.trans h) nofun
      txClear := fun h => absurd (hp.symm.trans h) nofun
      waitBounds := fun _ => ⟨htxi, hdone, (toNat_add_one hlt (idleTicks s.bauddiv).isLt.le).trans_lt hlt, hwaitc⟩ }
  · exact b

theorem BoundaryInv.waitTick {s : State} (b : BoundaryInv s) : BoundaryInv (after .waitTick s) := by
  rw [after_waitTick]
  split
  · next hsel =>
    obtain ⟨hp, hlt⟩ := hsel
    obtain ⟨htxi, hdone, hsil, -⟩ := b.waitBounds hp
    exact { b with
      idleClear := fun h => absurd (hp.symm.trans h) nofun
      txClear := fun h => absurd (hp.symm.trans h) nofun
      waitBounds := fun _ => ⟨htxi, hdone, hsil, (toNat_add_one hlt s.respto.isLt.le).trans_lt hlt⟩ }
  · exact b

/-- The Raw Frame Buffer reset to empty. -/
theorem BoundaryInv.clearAssembler {s : State} (b : BoundaryInv s) : BoundaryInv (clearAssembler s) where
  cfgLegal := b.cfgLegal
  bufferWf := b.bufferWf
  bufferRange := b.bufferRange
  idleClear h := by
    obtain ⟨htxi, -, -, -, hwaitc⟩ := b.idleClear h
    exact ⟨htxi, rfl, rfl, rfl, hwaitc⟩
  txClear h := by
    obtain ⟨-, -, -, hrest⟩ := b.txClear h
    exact ⟨rfl, rfl, rfl, hrest⟩
  waitBounds h := by
    obtain ⟨htxi, hdone, -, hwaitc⟩ := b.waitBounds h
    obtain ⟨-, hbaud, -⟩ := b.activeLegal (fun hi => absurd (hi.symm.trans h) nofun)
    exact ⟨htxi, hdone, idleTicksOf_pos hbaud, hwaitc⟩
  receiving := by simp
  doneRecord := b.doneRecord
  doneIdle := b.doneIdle
  activeLegal := b.activeLegal
  lenBound := Nat.zero_le _
  causeNone := b.causeNone
  resultCount := b.resultCount

/-- A completion in `PHASE = WAIT`, with a completion code. -/
theorem BoundaryInv.complete {s : State} {code : RCode} (b : BoundaryInv s) (hp : s.phase = .wait) (hcode : code ≠ .none) :
    BoundaryInv (complete code s) := by
  obtain ⟨htxi, -⟩ := b.waitBounds hp
  exact { b with
    idleClear := fun _ => ⟨htxi, rfl, rfl, rfl, rfl⟩
    txClear := nofun
    waitBounds := nofun
    receiving := by simp
    doneRecord := iff_of_true rfl hcode
    doneIdle := fun _ => rfl
    activeLegal := fun h => absurd rfl h
    lenBound := Nat.zero_le _ }

/-- A frame that `DECODE` accepts has half its byte-count as its number of registers, which `RCOUNT` holds (R34, R244). -/
theorem BoundaryInv.storeFrame {s : State} {buf : List Byte} {f : ParsedFrame} (b : BoundaryInv s)
    (h : decodeCandidate s.cfg buf = .ok f) : BoundaryInv (storeFrame f s) := by
  obtain ⟨rfl, -⟩ := decodeCandidate_ok h
  refine { b with resultCount := ?_ }
  have := (buf.getD 2 0).isLt
  simp only [storeFrame_rcount, storeFrame_rbytes, projectFrame, BitVec.toNat_ofNat]
  omega

/-- The hand-over of a candidate frame in `PHASE = WAIT`: completion, or a flag, which the invariants do not speak of. -/
theorem BoundaryInv.handOver {s : State} (b : BoundaryInv s) (hp : s.phase = .wait) (buf : List Byte) :
    BoundaryInv (handOver buf s) := by
  rcases handOver_cases buf s with ⟨f, hf, h⟩ | ⟨-, h⟩ | ⟨-, h⟩ | ⟨-, h⟩ <;> rw [h]
  · exact (b.storeFrame hf).complete hp nofun
  · exact { b with }
  · exact { b with }
  · exact { b with }

theorem BoundaryInv.endCycle {s : State} (b : BoundaryInv s) (hp : s.phase = .wait) (buf : List Byte) :
    BoundaryInv (endCycle buf s) := by
  rcases endCycle_cases buf s with ⟨-, h⟩ | ⟨-, h⟩ <;> rw [h]
  · exact b.clearAssembler
  · exact (b.handOver hp buf).clearAssembler

theorem BoundaryInv.waitOp {s : State} (b : BoundaryInv s) {i : Instr} (hi : IsWaitOp i) : BoundaryInv (after i s) := by
  cases hi with
  | rxByte data => exact b.rxByte data
  | rxDrop => exact b.rxDrop
  | silTick => exact b.silTick
  | idleExpire =>
    rw [after_idleExpire]
    split
    · next hsel => exact b.endCycle hsel.1 _
    · exact b
  | waitTick => exact b.waitTick
  | waitExpire =>
    rw [after_waitExpire]
    split
    · next hsel => exact b.complete hsel.1 nofun
    · exact b

/-- Settles O46: the outputs, the reset, the host operation and every operation of the phase action keep the invariants. -/
theorem stepKeepsTheBoundaryInvariant : Obligations.StepKeepsTheBoundaryInvariant := by
  intro s t b h
  rcases step_cases h with ⟨-, rfl⟩ | ⟨-, rfl⟩
  · exact b.offered.resetBlock
  · exact phaseOps_induction (fun i u hi c => c.transmitOp hi) (fun i u hi c => c.waitOp hi) _ s (b.offered.afterHost _)

end Sys2Proof.Machine

/-! The unspecified bytes of `FB` and the hidden words of `RWORD` (spec/10_state.md R33, R41, R56): which operations do not depend on
the two arrays, and that states which differ in nothing visible stay so. -/

namespace Sys2Proof.Machine

/-- The state with other arrays in the place of `FB` and `RWORD`. -/
def withArrays (fb : Memory) (rword : Vector Word 127) (s : State) : State := { s with fb := fb, rword := rword }

/-- An operation that neither reads nor writes `FB` and `RWORD`, makes no byte of the candidate frame, and opens no result. -/
structure ArraysIrrelevant (F : State → State) : Prop where
  commutes : ∀ fb rword s, F (withArrays fb rword s) = withArrays fb rword (F s)
  lenLe    : ∀ s, (F s).len ≤ s.len
  gate     : ∀ s, (F s).rcode = .ok → s.rcode = .ok ∧ (F s).rcount = s.rcount

namespace ArraysIrrelevant

theorem id : ArraysIrrelevant fun s => s := ⟨fun _ _ _ => rfl, fun _ => le_rfl, fun _ h => ⟨h, rfl⟩⟩

/-- A choice by a condition that does not read the arrays. -/
theorem ite {c : State → Prop} [∀ s, Decidable (c s)] {F G : State → State}
    (hc : ∀ fb rword s, c (withArrays fb rword s) ↔ c s) (hF : ArraysIrrelevant F) (hG : ArraysIrrelevant G) :
    ArraysIrrelevant fun s => if c s then F s else G s where
  commutes fb rword s := by
    simp only [hc]
    split
    · exact hF.commutes fb rword s
    · exact hG.commutes fb rword s
  lenLe s := by
    split
    · exact hF.lenLe s
    · exact hG.lenLe s
  gate s h := by
    split at h
    · next hs => simpa only [if_pos hs] using hF.gate s h
    · next hs => simpa only [if_neg hs] using hG.gate s h

theorem comp {F G : State → State} (hF : ArraysIrrelevant F) (hG : ArraysIrrelevant G) :
    ArraysIrrelevant fun s => G (F s) where
  commutes fb rword s := by rw [hF.commutes, hG.commutes]
  lenLe s := (hG.lenLe _).trans (hF.lenLe s)
  gate s h := by
    obtain ⟨h', hcount⟩ := hG.gate _ h
    obtain ⟨h'', hcount'⟩ := hF.gate s h'
    exact ⟨h'', hcount.trans hcount'⟩

/-- Such an operation keeps both arrays. -/
theorem keeps_arrays {F : State → State} (hF : ArraysIrrelevant F) (s : State) :
    (F s).fb = s.fb ∧ (F s).rword = s.rword := by
  have h : F s = withArrays s.fb s.rword (F s) := hF.commutes s.fb s.rword s
  rw [h]
  exact ⟨rfl, rfl⟩

theorem offer : ArraysIrrelevant fun s => offerFrame (reqFrame s) s :=
  ite (fun _ _ _ => Iff.rfl) ⟨fun _ _ _ => rfl, fun _ => le_rfl, fun _ h => ⟨h, rfl⟩⟩ id

theorem offered : ArraysIrrelevant offered :=
  comp (F := sampled) ⟨fun _ _ _ => rfl, fun _ => le_rfl, fun _ h => ⟨h, rfl⟩⟩ offer

theorem transfer : ArraysIrrelevant transferByte where
  commutes fb rword s := by
    have h : offerFrame (reqFrame (withArrays fb rword s)) (withArrays fb rword s) =
      withArrays fb rword (offerFrame (reqFrame s) s) := offer.commutes fb rword s
    unfold transferByte
    rw [h]; rfl
  lenLe := offer.lenLe
  gate := offer.gate

theorem start (fn : Byte) : ArraysIrrelevant (startCommand fn) :=
  ite (fun _ _ _ => Iff.rfl) ⟨fun _ _ _ => rfl, fun s => Nat.zero_le s.len, fun _ h => nomatch h⟩
    ⟨fun _ _ _ => rfl, fun _ => le_rfl, fun _ h => ⟨h, rfl⟩⟩

theorem store (idx : HostIndex) (data : HostData) : ArraysIrrelevant (storeHost idx data) where
  commutes fb rword s := by
    unfold storeHost
    cases hostReg idx <;> rfl
  lenLe s := by rw [storeHost_frame]
  gate s := by rw [storeHost_frame]; exact fun h => ⟨h, rfl⟩

theorem write (idx : HostIndex) (data : HostData) : ArraysIrrelevant (writeHost idx data) :=
  ite (fun _ _ _ => Iff.rfl) (start _) <| ite (fun _ _ _ => Iff.rfl) id <| ite (fun _ _ _ => Iff.rfl)
    ⟨fun _ _ _ => rfl, fun _ => le_rfl, fun _ h => nomatch h⟩ (store idx data)

theorem clear : ArraysIrrelevant clearAssembler :=
  ⟨fun _ _ _ => rfl, fun s => Nat.zero_le s.len, fun _ h => ⟨h, rfl⟩⟩

theorem transmitOp {i : Instr} (hi : IsTransmitOp i) : ArraysIrrelevant (after i) := by
  cases hi with
  | txByte =>
    exact ite (fun _ _ _ => Iff.rfl)
      ⟨fun fb rword s => congrArg (fun u => { u with txi := s.txi + 1 }) (transfer.commutes fb rword s), transfer.lenLe,
        transfer.gate⟩ id
  | txStall => exact offer
  | txLast =>
    exact ite (fun _ _ _ => Iff.rfl)
      (comp (comp transfer clear) (G := fun s => { s with phase := .wait, txi := 0, waitc := 0 })
        ⟨fun _ _ _ => rfl, fun _ => le_rfl, fun _ h => ⟨h, rfl⟩⟩) id

theorem rxDrop : ArraysIrrelevant (after .rxDrop) :=
  ite (fun _ _ _ => Iff.rfl) ⟨fun _ _ _ => rfl, fun _ => le_rfl, fun _ h => ⟨h, rfl⟩⟩ id

theorem silTick : ArraysIrrelevant (after .silTick) :=
  ite (fun _ _ _ => Iff.rfl) ⟨fun _ _ _ => rfl, fun _ => le_rfl, fun _ h => ⟨h, rfl⟩⟩ id

theorem waitTick : ArraysIrrelevant (after .waitTick) :=
  ite (fun _ _ _ => Iff.rfl) ⟨fun _ _ _ => rfl, fun _ => le_rfl, fun _ h => ⟨h, rfl⟩⟩ id

theorem waitExpire : ArraysIrrelevant (after .waitExpire) :=
  ite (fun _ _ _ => Iff.rfl) ⟨fun _ _ _ => rfl, fun s => Nat.zero_le s.len, fun _ h => nomatch h⟩ id

end ArraysIrrelevant

/-! What cannot be told apart stays so. -/

/-- States that cannot be told apart, with canonical buffers (spec/10_state.md R33, R41). -/
structure Twins (s t : State) : Prop where
  same    : SameVisible s t
  wfLeft  : Memory.wf s.fb = true
  wfRight : Memory.wf t.fb = true

theorem SameVisible.refl (s : State) : SameVisible s s := ⟨rfl, fun _ _ => rfl, fun _ _ _ => rfl⟩

theorem SameVisible.eq_withArrays {s t : State} (h : SameVisible s t) : t = withArrays t.fb t.rword s := h.others

/-- The candidate frame ends below `LEN`, where the buffers agree. -/
theorem SameVisible.candidate_eq {s t : State} (h : SameVisible s t) : candidate t = candidate s := by
  have hlen : t.len = s.len := by rw [h.others]
  unfold candidate
  rw [hlen]
  exact List.map_congr_left fun a ha => h.buffer a (List.mem_range.1 ha)

/-- A host read shows a result word through the gate only (R33). -/
theorem SameVisible.readHost_eq {s t : State} (h : SameVisible s t) (idx : HostIndex) : readHost t idx = readHost s idx := by
  have hword : ∀ i : Fin 127,
      (if s.rcode = .ok ∧ i.val < s.rcount.toNat then t.rword[i].setWidth 32 else 0) =
      if s.rcode = .ok ∧ i.val < s.rcount.toNat then s.rword[i].setWidth 32 else (0 : HostData) := fun i => by
    split
    · next hg => rw [h.result hg.1 i hg.2]
    · rfl
  rw [h.eq_withArrays]
  unfold readHost
  cases hostReg idx with
  | rword i => exact hword i
  | _ => rfl

theorem SameVisible.map {s t : State} (h : SameVisible s t) {F : State → State} (hF : ArraysIrrelevant F) :
    SameVisible (F s) (F t) := by
  have ht : F t = withArrays t.fb t.rword (F s) := by
    rw [← hF.commutes]; exact congrArg F h.others
  obtain ⟨hfb, hrword⟩ := hF.keeps_arrays s
  rw [ht]
  refine ⟨rfl, fun a ha => ?_, fun hok i hi => ?_⟩
  · rw [hfb]; exact h.buffer a (ha.trans_le (hF.lenLe s))
  · obtain ⟨hok', hcount⟩ := hF.gate s hok
    simp only [hrword]
    exact h.result hok' i (hcount ▸ hi)

theorem Twins.map {s t : State} (h : Twins s t) {F : State → State} (hF : ArraysIrrelevant F) : Twins (F s) (F t) where
  same := h.same.map hF
  wfLeft := by rw [(hF.keeps_arrays s).1]; exact h.wfLeft
  wfRight := by rw [(hF.keeps_arrays t).1]; exact h.wfRight

/-- A host operation reads the same value of both states (R261) and writes alike. -/
theorem Twins.afterHost {s t : State} (h : Twins s t) (op : HostOp) : Twins (afterHost op s) (afterHost op t) := by
  cases op with
  | none => exact h
  | rd idx =>
    have hread : Machine.afterHost (.rd idx) t = { t with out := { t.out with hRdata := readHost s idx } } := by
      rw [Machine.afterHost, h.same.readHost_eq]
    rw [hread]
    exact h.map (F := fun u => { u with out := { u.out with hRdata := readHost s idx } })
      ⟨fun _ _ _ => rfl, fun _ => le_rfl, fun _ h => ⟨h, rfl⟩⟩
  | wr idx data => exact h.map (.write idx data)

/-- A character goes to the same address of both buffers, which stays below the new `LEN` (R172). -/
theorem Twins.rxByte {s t : State} (h : Twins s t) (data : Byte) : Twins (after (.rxByte data) s) (after (.rxByte data) t) := by
  have hlen : t.len = s.len := by rw [h.same.others]
  have hsel : rxByteSelected t ↔ rxByteSelected s := by rw [h.same.others]
  simp only [after_rxByte, hsel, hlen]
  split
  · refine ⟨⟨?_, fun a ha => ?_, h.same.result⟩, memWrite_wf _ _ h.wfLeft, memWrite_wf _ _ h.wfRight⟩
    · exact congrArg (fun u : State => { u with
        fb := memWrite t.fb s.len data, len := s.len + 1, asm := .receiving, sil := 0 }) h.same.others
    · by_cases hnew : a = s.len
      · subst hnew
        exact (memRead_memWrite_same _ _ h.wfRight).trans (memRead_memWrite_same _ _ h.wfLeft).symm
      · have hold : a < s.len := Nat.lt_of_le_of_ne (Nat.lt_succ_iff.1 ha) hnew
        exact (memRead_memWrite_ne _ _ hnew).trans ((h.same.buffer a hold).trans (memRead_memWrite_ne _ _ hnew).symm)
  · exact h

/-- A completion stores the same words below `RCOUNT` in both states (R272). -/
theorem Twins.completeWith {s t : State} (h : Twins s t) (f : ParsedFrame) : Twins (completeWith f s) (completeWith f t) := by
  refine ⟨⟨?_, nofun, fun _ i hi => ?_⟩, h.wfLeft, h.wfRight⟩
  · have hothers := congrArg (fun u => withArrays t.fb (Machine.completeWith f t).rword (Machine.completeWith f u))
      h.same.others
    exact hothers
  · have hstored : i.val < f.registerCount := hi.trans_le (Nat.mod_le _ _)
    simp [Machine.completeWith, storeFrame, hstored]

theorem Twins.handOver {s t : State} (h : Twins s t) (buf : List Byte) : Twins (handOver buf s) (handOver buf t) := by
  have hcfg : t.cfg = s.cfg := by rw [h.same.others]
  unfold Machine.handOver
  rw [hcfg]
  cases decodeCandidate s.cfg buf with
  | ok f => exact h.completeWith f
  | shortFrame => exact h.map (F := flagShort) ⟨fun _ _ _ => rfl, fun _ => le_rfl, fun _ h => ⟨h, rfl⟩⟩
  | invalidFrame => exact h.map (F := flagBadCrc) ⟨fun _ _ _ => rfl, fun _ => le_rfl, fun _ h => ⟨h, rfl⟩⟩
  | badLength => exact h.map (F := flagBadLen) ⟨fun _ _ _ => rfl, fun _ => le_rfl, fun _ h => ⟨h, rfl⟩⟩

theorem Twins.endCycle {s t : State} (h : Twins s t) (buf : List Byte) : Twins (endCycle buf s) (endCycle buf t) := by
  unfold Machine.endCycle
  split
  · exact h.map .clear
  · exact (h.handOver buf).map .clear

theorem Twins.idleExpire {s t : State} (h : Twins s t) : Twins (after .idleExpire s) (after .idleExpire t) := by
  have hsel : idleExpireSelected t ↔ idleExpireSelected s := by rw [h.same.others]; exact Iff.rfl
  simp only [after_idleExpire, hsel]
  split
  · rw [h.same.candidate_eq]; exact h.endCycle _
  · exact h

theorem Twins.waitOp {s t : State} (h : Twins s t) {i : Instr} (hi : IsWaitOp i) : Twins (after i s) (after i t) := by
  cases hi with
  | rxByte data => exact h.rxByte data
  | rxDrop => exact h.map .rxDrop
  | silTick => exact h.map .silTick
  | idleExpire => exact h.idleExpire
  | waitTick => exact h.map .waitTick
  | waitExpire => exact h.map .waitExpire

/-! The tick. -/

theorem SameVisible.currentInput_eq {s t : State} (h : SameVisible s t) : currentInput t = currentInput s := by
  rw [h.others]; rfl

/-- What a tick performs depends on the arrays through the candidate frame only (R281). -/
theorem SameVisible.phaseOps_eq {s t : State} (h : SameVisible s t) (inp : TickInput) : phaseOps inp t = phaseOps inp s := by
  have hcompletes : completesNow inp t = completesNow inp s := by
    unfold completesNow
    rw [h.candidate_eq, h.others]; rfl
  have hwait : waitOps inp t = waitOps inp s := by
    unfold waitOps
    rw [hcompletes, h.others]
  unfold phaseOps
  rw [hwait, h.others]; rfl

theorem SameVisible.resetBlock_eq {s t : State} (h : SameVisible s t) : resetBlock t = resetBlock s := by
  rw [h.others]; rfl

theorem Twins.phaseOps {s t : State} (h : Twins s t) (inp : TickInput) (u : State) :
    Twins (afterAll (phaseOps inp u) s) (afterAll (phaseOps inp u) t) := by
  refine afterAll_induction₂ (fun i hi v w hvw => ?_) h
  rcases mem_phaseOps hi with rfl | ht | hw
  · exact hvw
  · exact hvw.map (.transmitOp ht)
  · exact hvw.waitOp hw

/-- Two states that cannot be told apart have next states that cannot. -/
theorem Twins.step {s t s' : State} (h : Twins s t) (hs : step s = .next s') :
    ∃ t', step t = .next t' ∧ SameVisible s' t' := by
  have hin := h.same.currentInput_eq
  have hoff : Twins (Machine.offered s) (Machine.offered t) := h.map .offered
  rcases step_cases hs with ⟨hr, rfl⟩ | ⟨hr, rfl⟩
  · exact ⟨_, step_eq_of_reset (hin ▸ hr), hoff.same.resetBlock_eq ▸ .refl _⟩
  · refine ⟨_, step_eq_of_no_reset (hin ▸ hr), ?_⟩
    rw [hin, h.same.phaseOps_eq]
    exact ((hoff.afterHost _).phaseOps _ s).same

/-- Settles O58: the relation is kept by the tick, and it covers the ports and every host read. -/
theorem unspecifiedArraysCannotBeObserved : Obligations.UnspecifiedArraysCannotBeObserved := by
  intro s t s' h hs ht hstep
  obtain ⟨t', hstep', h'⟩ := Twins.step ⟨h, hs, ht⟩ hstep
  exact ⟨t', hstep', by rw [h'.others], h', h'.readHost_eq⟩

end Sys2Proof.Machine

/-! What a tick leaves of the operands (spec/20_memory.md R94), and that a host read changes the read port alone (R90,
spec/40_timing_and_ports.md R156). -/

namespace Sys2Proof.Machine

section Operands

/-- What an operation in flight works on: the operand registers, the payload, the function, the timing registers and the
parameters. -/
structure Operands where
  bauddiv : Word
  respto  : BitVec 32
  station : Byte
  addr    : Word
  count   : Word
  pword   : Vector Word 127
  fn      : Byte
  cfg     : Config

/-- The operands that a state holds. -/
def operandsOf (s : State) : Operands :=
  { bauddiv := s.bauddiv, respto := s.respto, station := s.station, addr := s.addr, count := s.count, pword := s.pword,
    fn := s.fn, cfg := s.cfg }

/-- The request frame is a function of the operands (spec/43_request_encoder.md R222). -/
theorem reqFrame_eq_of_operands {s t : State} (h : operandsOf t = operandsOf s) : reqFrame t = reqFrame s := by
  obtain ⟨-, -, hstation, haddr, hcount, hpword, hfn, hcfg⟩ := Operands.mk.inj h
  unfold reqFrame
  rw [hstation, haddr, hcount, hpword, hfn, hcfg]

/-- The idle timeout is a function of the operands (spec/10_state.md R45). -/
theorem idleTicksOf_eq_of_operands {s t : State} (h : operandsOf t = operandsOf s) : idleTicksOf t = idleTicksOf s :=
  congrArg (fun o : Operands => (idleTicks o.bauddiv).toNat) h

@[simp] theorem operandsOf_offered (s : State) : operandsOf (offered s) = operandsOf s := by
  rw [offered_frame]; rfl

@[simp] theorem operandsOf_offerFrame (frame : List Byte) (s : State) : operandsOf (offerFrame frame s) = operandsOf s := by
  rw [offerFrame_frame]; rfl

@[simp] theorem operandsOf_transferByte (s : State) : operandsOf (transferByte s) = operandsOf s :=
  operandsOf_offerFrame (reqFrame s) s

/-- A host operation writes no operand while the block is active (R94, R263). -/
theorem operandsOf_afterHost_of_active {s : State} (h : s.phase ≠ .idle) (op : HostOp) :
    operandsOf (afterHost op s) = operandsOf s := by
  rw [afterHost_active h]; rfl

@[simp] theorem operandsOf_handOver (buf : List Byte) (s : State) : operandsOf (handOver buf s) = operandsOf s := by
  rcases handOver_cases buf s with ⟨f, -, h⟩ | ⟨-, h⟩ | ⟨-, h⟩ | ⟨-, h⟩ <;> rw [h] <;> rfl

@[simp] theorem operandsOf_endCycle (buf : List Byte) (s : State) : operandsOf (endCycle buf s) = operandsOf s := by
  rcases endCycle_cases buf s with ⟨-, h⟩ | ⟨-, h⟩ <;> rw [h]
  · rfl
  · exact operandsOf_handOver buf s

theorem transmitOp_keeps_operands {i : Instr} (hi : IsTransmitOp i) (s : State) : operandsOf (after i s) = operandsOf s := by
  cases hi with
  | txByte => rw [after_txByte]; split; exacts [operandsOf_transferByte s, rfl]
  | txStall => exact operandsOf_offerFrame (reqFrame s) s
  | txLast => rw [after_txLast]; split; exacts [operandsOf_transferByte s, rfl]

theorem waitOp_keeps_operands {i : Instr} (hi : IsWaitOp i) (s : State) : operandsOf (after i s) = operandsOf s := by
  cases hi with
  | rxByte data => rw [after_rxByte]; split <;> rfl
  | rxDrop => rw [after_rxDrop]; split <;> rfl
  | silTick => rw [after_silTick]; split <;> rfl
  | idleExpire => rw [after_idleExpire]; split; exacts [operandsOf_endCycle _ s, rfl]
  | waitTick => rw [after_waitTick]; split <;> rfl
  | waitExpire => rw [after_waitExpire]; split <;> rfl

/-- A tick without reset that starts in an active phase keeps the operands. -/
theorem step_keeps_operands {s t : State} (hp : s.phase ≠ .idle) (hr : (currentInput s).rst = false)
    (h : step s = .next t) : operandsOf t = operandsOf s := by
  obtain rfl := Host.Outcome.next.inj ((step_eq_of_no_reset hr).symm.trans h)
  have hhost : operandsOf (afterHost (currentInput s).host (offered s)) = operandsOf s := by
    rw [operandsOf_afterHost_of_active (by rwa [offered_phase]), operandsOf_offered]
  exact phaseOps_induction (P := fun u => operandsOf u = operandsOf s)
    (fun i u hi hu => (transmitOp_keeps_operands hi u).trans hu)
    (fun i u hi hu => (waitOp_keeps_operands hi u).trans hu) _ s hhost

/-- Settles O49: the request frame and the idle timeout are functions of the operands, which the tick keeps. -/
theorem operandsStayWhileActive : Obligations.OperandsStayWhileActive := by
  intro s t hp hr h
  have hkept := step_keeps_operands hp hr h
  obtain ⟨hbauddiv, hrespto, hstation, haddr, hcount, hpword, hfn, -⟩ := Operands.mk.inj hkept
  exact ⟨hbauddiv, hrespto, hstation, haddr, hcount, hpword, hfn, reqFrame_eq_of_operands hkept,
    idleTicksOf_eq_of_operands hkept⟩

end Operands

section ReadPort

/-- The state with another value on the read port `h_rdata`. -/
def withReadPort (d : HostData) (s : State) : State := { s with out := { s.out with hRdata := d } }

/-- An operation that neither reads nor writes the read port. -/
def ReadPortIrrelevant (F : State → State) : Prop := ∀ d s, F (withReadPort d s) = withReadPort d (F s)

namespace ReadPortIrrelevant

/-- Such an operation keeps the value on the read port. -/
theorem keeps_hRdata {F : State → State} (hF : ReadPortIrrelevant F) (s : State) :
    (F s).out.hRdata = s.out.hRdata := by
  have h : F s = withReadPort s.out.hRdata (F s) := hF s.out.hRdata s
  rw [h]; rfl

theorem comp {F G : State → State} (hF : ReadPortIrrelevant F) (hG : ReadPortIrrelevant G) :
    ReadPortIrrelevant fun s => G (F s) := fun d s =>
  (congrArg G (hF d s)).trans (hG d (F s))

/-- A selecting condition that does not read the port, before an operation that does not. -/
theorem ite {c : State → Prop} [∀ s, Decidable (c s)] {F : State → State}
    (hc : ∀ d s, c (withReadPort d s) ↔ c s) (hF : ReadPortIrrelevant F) :
    ReadPortIrrelevant fun s => if c s then F s else s := fun d s => by
  simp only [hc, hF d s]
  exact (apply_ite (withReadPort d) _ _ _).symm

theorem offer : ReadPortIrrelevant fun s => offerFrame (reqFrame s) s :=
  ite (fun _ _ => Iff.rfl) fun _ _ => rfl

theorem transfer : ReadPortIrrelevant transferByte := fun d s => by
  have h : offerFrame (reqFrame (withReadPort d s)) (withReadPort d s) = withReadPort d (offerFrame (reqFrame s) s) :=
    offer d s
  unfold transferByte
  rw [h]; rfl

theorem transmitOp {i : Instr} (hi : IsTransmitOp i) : ReadPortIrrelevant (after i) := by
  cases hi with
  | txByte =>
    exact ite (fun _ _ => Iff.rfl) fun d s => congrArg (fun u => { u with txi := s.txi + 1 }) (transfer d s)
  | txStall => exact offer
  | txLast =>
    exact ite (fun _ _ => Iff.rfl)
      (comp transfer (G := fun s => { clearAssembler s with phase := .wait, txi := 0, waitc := 0 }) fun _ _ => rfl)

/-- The decoder reads the candidate frame and the parameters, not the port. -/
theorem handOver (buf : List Byte) : ReadPortIrrelevant (handOver buf) := fun d s => by
  have hcfg : (withReadPort d s).cfg = s.cfg := rfl
  unfold Machine.handOver
  rw [hcfg]
  cases decodeCandidate s.cfg buf <;> rfl

theorem endCycle (buf : List Byte) : ReadPortIrrelevant (endCycle buf) := fun d s => by
  unfold Machine.endCycle
  split
  · rfl
  · rw [handOver]; rfl

theorem waitOp {i : Instr} (hi : IsWaitOp i) : ReadPortIrrelevant (after i) := by
  cases hi with
  | rxByte data => exact ite (fun _ _ => Iff.rfl) fun _ _ => rfl
  | rxDrop => exact ite (fun _ _ => Iff.rfl) fun _ _ => rfl
  | silTick => exact ite (fun _ _ => Iff.rfl) fun _ _ => rfl
  | idleExpire => exact ite (fun _ _ => Iff.rfl) fun d s => endCycle (candidate s) d s
  | waitTick => exact ite (fun _ _ => Iff.rfl) fun _ _ => rfl
  | waitExpire => exact ite (fun _ _ => Iff.rfl) fun _ _ => rfl

/-- The phase action neither reads nor writes the read port. -/
theorem phaseOps (inp : TickInput) (s : State) : ReadPortIrrelevant (afterAll (phaseOps inp s)) := fun d u => by
  refine afterAll_induction₂ (R := fun v w => v = withReadPort d w) (fun i hi v w hvw => ?_) rfl
  rw [hvw]
  rcases mem_phaseOps hi with rfl | ht | hw
  · rfl
  · exact transmitOp ht d w
  · exact waitOp hw d w

end ReadPortIrrelevant

/-- Before any operation of the tick the read port shows 0 (R156). -/
@[simp] theorem offered_hRdata (s : State) : (offered s).out.hRdata = 0 :=
  ReadPortIrrelevant.offer.keeps_hRdata (sampled s)

/-- The state whose next tick has the inputs `inp`, but for the host operation `op`. -/
def withHostOp (s : State) (inp : TickInput) (rest : List TickInput) (op : HostOp) : State :=
  { s with inputs := { inp with host := op } :: rest }

variable {s u : State} {inp : TickInput} {rest : List TickInput}

/-- A host read shows the registers as they stand before the tick. -/
theorem readHost_offered_withHostOp (op : HostOp) (idx : HostIndex) :
    readHost (offered (withHostOp s inp rest op)) idx = readHost s idx := by
  rw [offered_frame]; rfl

/-- On a tick with reset the host operation is not performed (spec/70_reset_and_hazards.md R340). -/
theorem step_withHostOp_of_reset (hr : inp.rst = true) (op : HostOp) :
    step (withHostOp s inp rest op) = .next (resetBlock (offered (withHostOp s inp rest .none))) :=
  step_eq_of_reset (s := withHostOp s inp rest op) hr

/-- On any other tick neither the outputs before the host operation nor the choice of the phase action depend on it (R280). -/
theorem step_withHostOp_of_no_reset (hr : inp.rst = false) (op : HostOp) :
    step (withHostOp s inp rest op) =
      .next (afterAll (phaseOps inp s) (afterHost op (offered (withHostOp s inp rest .none)))) :=
  step_eq_of_no_reset (s := withHostOp s inp rest op) hr

/-- A tick without a host operation leaves 0 on the read port (R156). -/
theorem step_none_hRdata (h : step (withHostOp s inp rest .none) = .next u) : u.out.hRdata = 0 := by
  rcases step_cases h with ⟨-, rfl⟩ | ⟨-, rfl⟩
  · rw [resetBlock_out, offered_hRdata]
  · exact ((ReadPortIrrelevant.phaseOps _ _).keeps_hRdata _).trans (offered_hRdata _)

/-- On a tick with reset nothing is read: the tick is the one without a host operation. -/
theorem step_rd_of_reset (hr : inp.rst = true) (idx : HostIndex) :
    step (withHostOp s inp rest (.rd idx)) = step (withHostOp s inp rest .none) :=
  (step_withHostOp_of_reset hr _).trans (step_withHostOp_of_reset hr _).symm

/-- On any other tick a read puts the value read on the port of the state that the tick leaves without a host operation. -/
theorem step_rd_of_no_reset (hr : inp.rst = false) (h : step (withHostOp s inp rest .none) = .next u) (idx : HostIndex) :
    step (withHostOp s inp rest (.rd idx)) = .next (withReadPort (readHost s idx) u) := by
  obtain rfl := Host.Outcome.next.inj ((step_withHostOp_of_no_reset hr .none).symm.trans h)
  rw [step_withHostOp_of_no_reset hr, ← readHost_offered_withHostOp .none idx]
  exact congrArg Host.Outcome.next (ReadPortIrrelevant.phaseOps inp s _ _)

end ReadPort

/-- Settles O51: the tick with the read leaves the state of the tick without it, but for the value read on the port. -/
theorem hostReadsHaveNoSideEffect : Obligations.HostReadsHaveNoSideEffect := by
  intro s inp rest idx t u ht hu
  have hzero : u.out.hRdata = 0 := step_none_hRdata hu
  cases hr : inp.rst with
  | true =>
    obtain rfl := Host.Outcome.next.inj (ht.symm.trans ((step_rd_of_reset hr idx).trans hu))
    exact ⟨rfl, hzero, nofun, fun _ => hzero⟩
  | false =>
    obtain rfl := Host.Outcome.next.inj (ht.symm.trans (step_rd_of_no_reset hr hu idx))
    exact ⟨rfl, hzero, fun _ => rfl, nofun⟩

end Sys2Proof.Machine


/-! The encoded forms and their decoders (spec/30_encoding.md): a frame decodes to an instruction exactly when the instruction is
well-formed and the frame is its encoding, checksum included. -/

namespace Sys2Proof.Machine

/-! Data words as bytes and back (R112, R114). -/

@[simp] theorem dataBytes_succ_cons (n : Nat) (w : Word) (ws : List Word) :
    dataBytes (n + 1) (w :: ws) = hiByte w :: loByte w :: dataBytes n ws := by
  simp [dataBytes, List.range_succ_eq_map, List.flatMap_map]

@[simp] theorem pairWords_dataBytes (words : List Word) : pairWords (dataBytes words.length words) = words := by
  induction words with
  | nil => rfl
  | cons w ws ih => simp [pairWords, ih]

/-- An even number of bytes is the data bytes of its words. -/
theorem pairWords_of_length {n : Nat} {bytes : List Byte} (h : bytes.length = 2 * n) :
    (pairWords bytes).length = n ∧ dataBytes n (pairWords bytes) = bytes := by
  induction n generalizing bytes with
  | zero => obtain rfl := List.length_eq_zero_iff.1 h; exact ⟨rfl, rfl⟩
  | succ n ih =>
    match bytes, h with
    | hi :: lo :: rest, h =>
      obtain ⟨hlen, hdata⟩ := ih (bytes := rest) (by simpa [Nat.mul_add] using h)
      simp [pairWords, hlen, hdata]

/-! Request frames (R111, R112). -/

/-- One word for each register, at most 127 of them (R221). -/
theorem writeOperandsWellFormed_iff {count : Word} {words : List Word} :
    writeOperandsWellFormed count words = true ↔ count.toNat ≤ maxWriteWords ∧ words.length = count.toNat := by
  simp [writeOperandsWellFormed]

/-- The header of a request whose address and count are given by their bytes. -/
@[simp] theorem requestHeader_joinBytes (station fn ah al ch cl : Byte) :
    requestHeader station fn (joinBytes ah al) (joinBytes ch cl) = [station, fn, ah, al, ch, cl] := by
  simp [requestHeader]

/-- A read request: its header, then its checksum bytes. -/
theorem encodeReadFrame_eq (cfg : Config) (station : Byte) (address count : Word) :
    ∃ crc : List Byte, encodeReadFrame cfg station address count =
      station :: fnRead :: hiByte address :: loByte address :: hiByte count :: loByte count :: crc :=
  ⟨_, rfl⟩

/-- A write request: its header, its byte-count, its data bytes and two checksum bytes. -/
theorem encodeWriteFrame_eq (cfg : Config) (station : Byte) (address count : Word) (words : List Word) :
    ∃ crc : List Byte, crc.length = 2 ∧ encodeWriteFrame cfg station address count words =
      station :: fnWrite :: hiByte address :: loByte address :: hiByte count :: loByte count ::
        byteCountOf count :: (dataBytes count.toNat words ++ crc) :=
  ⟨[_, _], rfl, by rw [encodeWriteFrame, withTxCrc, List.append_assoc]; rfl⟩

/-- A read request decodes when its bytes are the encoder's for the operands they spell out; its length follows. -/
theorem decodeReadRequest_eq_ok_iff {cfg : Config} {station ah al ch cl : Byte} {tail : List Byte} {i : Instr} :
    decodeReadRequest cfg station ah al ch cl tail = .ok i ↔
      i = .reqRead station (joinBytes ah al) (joinBytes ch cl) ∧
      encodeReadFrame cfg station (joinBytes ah al) (joinBytes ch cl) = station :: fnRead :: ah :: al :: ch :: cl :: tail := by
  unfold decodeReadRequest
  split
  · next hlen =>
    refine iff_of_false nofun fun ⟨_, h⟩ => hlen ?_
    simpa using (congrArg List.length h).symm
  · split
    · next hcrc => exact iff_of_false nofun fun ⟨_, h⟩ => hcrc (by simpa [encodeReadFrame] using h.symm)
    · next hcrc =>
      have hframe := (not_not.1 hcrc).symm
      exact ⟨fun h => ⟨(Except.ok.inj h).symm, by simpa [encodeReadFrame] using hframe⟩, fun ⟨h, _⟩ => congrArg _ h.symm⟩

theorem decodeWriteRequest_cons (cfg : Config) (station ah al ch cl bc : Byte) (tail : List Byte) :
    decodeWriteRequest cfg station ah al ch cl (bc :: tail) =
      if maxWriteWords < (joinBytes ch cl).toNat then .error .requestCount
      else if bc ≠ byteCountOf (joinBytes ch cl) then .error .requestByteCount
      else if tail.length ≠ 2 * (joinBytes ch cl).toNat + 2 then .error .requestLength
      else if requestHeader station fnWrite (joinBytes ah al) (joinBytes ch cl) ++ bc :: tail
          ≠ withTxCrc cfg (requestHeader station fnWrite (joinBytes ah al) (joinBytes ch cl)
              ++ bc :: tail.take (2 * (joinBytes ch cl).toNat)) then .error .requestChecksum
      else .ok (.reqWrite station (joinBytes ah al) (joinBytes ch cl)
        (pairWords (tail.take (2 * (joinBytes ch cl).toNat)))) := rfl

/-- A write request decodes when its bytes are the encoder's for the operands they spell out; its count, byte-count and length checks
say that there are such words. -/
theorem decodeWriteRequest_eq_ok_iff {cfg : Config} {station ah al ch cl : Byte} {tail : List Byte} {i : Instr} :
    decodeWriteRequest cfg station ah al ch cl tail = .ok i ↔
      ∃ words, writeOperandsWellFormed (joinBytes ch cl) words = true ∧
        i = .reqWrite station (joinBytes ah al) (joinBytes ch cl) words ∧
        encodeWriteFrame cfg station (joinBytes ah al) (joinBytes ch cl) words =
          station :: fnWrite :: ah :: al :: ch :: cl :: tail := by
  constructor
  · intro h
    cases tail with
    | nil => cases h
    | cons bc data =>
      rw [decodeWriteRequest_cons] at h
      split_ifs at h with hcount hbc hlen hcrc
      obtain ⟨hwords, hdata⟩ := pairWords_of_length (n := (joinBytes ch cl).toNat)
        (bytes := data.take (2 * (joinBytes ch cl).toNat)) (by simp; omega)
      refine ⟨_, ?_, (Except.ok.inj h).symm, ?_⟩
      · exact writeOperandsWellFormed_iff.2 ⟨Nat.not_lt.1 hcount, hwords⟩
      · simpa [encodeWriteFrame, hdata, not_not.1 hbc] using (not_not.1 hcrc).symm
  · rintro ⟨words, hwf, rfl, hframe⟩
    obtain ⟨hcount, hwords⟩ := writeOperandsWellFormed_iff.1 hwf
    obtain ⟨crc, hcrc, hshape⟩ := encodeWriteFrame_eq cfg station (joinBytes ah al) (joinBytes ch cl) words
    obtain rfl : tail = byteCountOf (joinBytes ch cl) :: (dataBytes (joinBytes ch cl).toNat words ++ crc) := by
      simpa using hframe.symm.trans hshape
    have hdata : (dataBytes (joinBytes ch cl).toNat words ++ crc).take (2 * (joinBytes ch cl).toNat) =
        dataBytes (joinBytes ch cl).toNat words := List.take_left' (dataBytes_length _ _)
    have hpairs : pairWords (dataBytes (joinBytes ch cl).toNat words) = words := by
      rw [← hwords, pairWords_dataBytes]
    rw [decodeWriteRequest_cons, if_neg (Nat.not_lt.2 hcount), if_neg (not_not.2 rfl), if_neg (by simp [hcrc]), hdata, hpairs,
      if_neg (not_not.2 (by simpa [encodeWriteFrame] using hframe.symm))]

/-- The instructions whose encoding is a request frame. -/
theorem encode_eq_request {cfg : Config} {i : Instr} {bytes : List Byte} (h : encode cfg i = some (.request bytes)) :
    (∃ station address count, i = .reqRead station address count ∧ encodeReadFrame cfg station address count = bytes) ∨
    (∃ station address count words, i = .reqWrite station address count words ∧
      encodeWriteFrame cfg station address count words = bytes) := by
  cases i with
  | reqRead station address count => cases h; exact .inl ⟨_, _, _, rfl, rfl⟩
  | reqWrite station address count words => cases h; exact .inr ⟨_, _, _, _, rfl, rfl⟩
  | _ => cases h

theorem decodeRequest_header (cfg : Config) (station fn ah al ch cl : Byte) (tail : List Byte) :
    decodeRequest cfg (station :: fn :: ah :: al :: ch :: cl :: tail) =
      if fn = fnRead then decodeReadRequest cfg station ah al ch cl tail
      else if fn = fnWrite then decodeWriteRequest cfg station ah al ch cl tail
      else .error (.unknownFunction fn) := rfl

/-- A request frame decodes to the well-formed instruction that it encodes, and to no other. -/
theorem decodeRequest_eq_ok_iff {cfg : Config} {bytes : List Byte} {i : Instr} :
    decodeRequest cfg bytes = .ok i ↔ i.wellFormed cfg = true ∧ encode cfg i = some (.request bytes) := by
  constructor
  · intro h
    match bytes, h with
    | station :: fn :: ah :: al :: ch :: cl :: tail, h =>
      rw [decodeRequest_header] at h
      split_ifs at h with hread hwrite
      · obtain ⟨rfl, hframe⟩ := decodeReadRequest_eq_ok_iff.1 h
        exact ⟨rfl, by rw [encode, hframe, hread]⟩
      · obtain ⟨words, hwf, rfl, hframe⟩ := decodeWriteRequest_eq_ok_iff.1 h
        exact ⟨hwf, by rw [encode, hframe, hwrite]⟩
  · rintro ⟨hwf, h⟩
    rcases encode_eq_request h with ⟨station, address, count, rfl, rfl⟩ | ⟨station, address, count, words, rfl, rfl⟩
    · obtain ⟨crc, hshape⟩ := encodeReadFrame_eq cfg station address count
      rw [hshape, decodeRequest_header, if_pos rfl, decodeReadRequest_eq_ok_iff]
      simpa using hshape
    · obtain ⟨crc, -, hshape⟩ := encodeWriteFrame_eq cfg station address count words
      rw [hshape, decodeRequest_header, if_neg (by decide), if_pos rfl, decodeWriteRequest_eq_ok_iff]
      simp only [joinBytes_split]
      exact ⟨words, hwf, rfl, hshape⟩

/-! Response frames (R113). -/

/-- The declared data are in place and the frame fits the buffer (R110, R113). -/
theorem wellFormed_resp_iff {cfg : Config} {f : RespFrame} :
    f.wellFormed cfg = true ↔ f.byteCount.toNat ≤ f.data.length ∧ f.data.length + 5 ≤ cfg.maxFrame := by
  simp [RespFrame.wellFormed]

/-- A response: its header, its data region with the slack, and two checksum bytes. -/
theorem encodeRespFrame_eq (cfg : Config) (f : RespFrame) :
    ∃ crc : List Byte, crc.length = 2 ∧
      encodeRespFrame cfg f = f.station :: f.function :: f.byteCount :: (f.data ++ crc) := by
  unfold encodeRespFrame withRxCrc
  split <;> exact ⟨_, rfl, rfl⟩

/-- Byte `i` of the data region, counted in the frame. -/
theorem encodeRespFrame_getD_data (cfg : Config) (f : RespFrame) {i : Nat} (h : i < f.data.length) :
    (encodeRespFrame cfg f).getD (3 + i) 0 = f.data.getD i 0 := by
  obtain ⟨crc, -, hshape⟩ := encodeRespFrame_eq cfg f
  rw [hshape, Nat.add_comm]
  exact List.getD_append f.data crc 0 i h

/-- A frame whose last two bytes carry the checksum of the bytes before them is those bytes with their checksum. -/
theorem eq_withRxCrc_of_carriedCrc {cfg : Config} {buf : List Byte} (hlen : 2 ≤ buf.length)
    (h : crcOf cfg (buf.take (buf.length - 2)) = carriedCrc cfg buf) :
    withRxCrc cfg (buf.take (buf.length - 2)) = buf := by
  obtain ⟨body, first, second, rfl⟩ : ∃ body first second, buf = body ++ [first, second] := by
    match hdrop : buf.drop (buf.length - 2), (by simp; omega : (buf.drop (buf.length - 2)).length = 2) with
    | [first, second], _ => exact ⟨_, first, second, by rw [← hdrop, List.take_append_drop]⟩
  have htake : (body ++ [first, second]).take ((body ++ [first, second]).length - 2) = body := List.take_left' (by simp)
  have hcrc : crcOf cfg body = rxCrcOf cfg first second := by
    rw [htake] at h
    rw [h, carriedCrc]
    simp [List.getD_eq_getElem?_getD]
  rw [htake, withRxCrc, hcrc, rxCrcOf]
  split <;> simp [splitCrc]

/-- The bytes before the checksum are those the checksum was put after. -/
theorem take_withRxCrc (cfg : Config) (body : List Byte) :
    (withRxCrc cfg body).take ((withRxCrc cfg body).length - 2) = body := by
  rw [withRxCrc_length, Nat.add_sub_cancel, withRxCrc]
  split <;> exact List.take_left

/-- A response whose declared data are in place is accepted by `DECODE` (R241 to R243). -/
theorem decodeCandidate_encodeRespFrame (cfg : Config) {f : RespFrame} (h : f.byteCount.toNat ≤ f.data.length) :
    decodeCandidate cfg (encodeRespFrame cfg f) = .ok (projectFrame (encodeRespFrame cfg f)) := by
  have hlen := encodeRespFrame_length cfg f
  have hbc : (encodeRespFrame cfg f).getD 2 0 = f.byteCount := by
    obtain ⟨crc, -, hshape⟩ := encodeRespFrame_eq cfg f
    rw [hshape]; rfl
  rcases decodeCandidate_cases cfg (encodeRespFrame cfg f) with
    ⟨hshort, _⟩ | ⟨_, hcrc, _⟩ | ⟨_, _, hbad, _⟩ | ⟨_, _, _, hok⟩
  · omega
  · refine absurd ?_ hcrc
    rw [encodeRespFrame, carriedCrc_withRxCrc, take_withRxCrc]
  · rw [hbc] at hbad; omega
  · exact hok

/-- The header of the projection of a response is the response's own (R244). -/
theorem projectFrame_encodeRespFrame (cfg : Config) (f : RespFrame) :
    projectFrame (encodeRespFrame cfg f) =
      { station := f.station, function := f.function, byteCount := f.byteCount, registerCount := f.byteCount.toNat / 2,
        values := projectWords (encodeRespFrame cfg f) (f.byteCount.toNat / 2) } := by
  obtain ⟨crc, -, hshape⟩ := encodeRespFrame_eq cfg f
  rw [projectFrame, hshape]
  rfl

/-- The instructions whose encoding is a response frame. -/
theorem encode_eq_response {cfg : Config} {i : Instr} {bytes : List Byte} (h : encode cfg i = some (.response bytes)) :
    ∃ f, i = .resp f ∧ encodeRespFrame cfg f = bytes := by
  cases i with
  | resp f => cases h; exact ⟨f, rfl, rfl⟩
  | _ => cases h

/-- The response frame that its bytes spell out, the two checksum bytes left off. -/
def respFrameOf (bytes : List Byte) : RespFrame :=
  { station := bytes.getD 0 0, function := bytes.getD 1 0, byteCount := bytes.getD 2 0,
    data := (bytes.drop 3).take (bytes.length - 5) }

theorem respFrameOf_encodeRespFrame (cfg : Config) (f : RespFrame) : respFrameOf (encodeRespFrame cfg f) = f := by
  obtain ⟨crc, hcrc, hshape⟩ := encodeRespFrame_eq cfg f
  rw [hshape]
  simp [respFrameOf, hcrc]

/-- The bytes before the checksum are the header and the data region. -/
theorem take_eq_respFrameOf {bytes : List Byte} (h : 5 ≤ bytes.length) :
    bytes.take (bytes.length - 2) = (respFrameOf bytes).station :: (respFrameOf bytes).function ::
      (respFrameOf bytes).byteCount :: (respFrameOf bytes).data := by
  match bytes, h with
  | station :: function :: byteCount :: tail, h =>
    simp only [List.length_cons] at h
    simp [respFrameOf, show tail.length + 1 + 1 + 1 - 2 = tail.length - 2 + 1 + 1 + 1 by omega]

/-- What the decoder of responses answers, through `DECODE`. -/
theorem decodeResponse_eq_ok_iff_decodeCandidate {cfg : Config} {bytes : List Byte} {i : Instr} :
    decodeResponse cfg bytes = .ok i ↔
      decodeCandidate cfg bytes = .ok (projectFrame bytes) ∧ bytes.length ≤ cfg.maxFrame ∧ i = .resp (respFrameOf bytes) := by
  unfold decodeResponse
  split
  · next h => rw [h]; exact iff_of_false nofun nofun
  · next h => rw [h]; exact iff_of_false nofun nofun
  · next h => rw [h]; exact iff_of_false nofun nofun
  · next f h =>
    obtain ⟨rfl, -⟩ := decodeCandidate_ok h
    split
    · next hlong => exact iff_of_false nofun fun ⟨_, hlen, _⟩ => by omega
    · next hlong => exact ⟨fun hi => ⟨h, by omega, (Except.ok.inj hi).symm⟩, fun ⟨_, _, hi⟩ => congrArg _ hi.symm⟩

/-- A response frame decodes to the well-formed instruction that it encodes, and to no other. -/
theorem decodeResponse_eq_ok_iff {cfg : Config} {bytes : List Byte} {i : Instr} :
    decodeResponse cfg bytes = .ok i ↔ i.wellFormed cfg = true ∧ encode cfg i = some (.response bytes) := by
  rw [decodeResponse_eq_ok_iff_decodeCandidate]
  constructor
  · rintro ⟨hdecode, hmax, rfl⟩
    obtain ⟨-, hlen, hcrc, hfits⟩ := decodeCandidate_ok hdecode
    have hframe : encodeRespFrame cfg (respFrameOf bytes) = bytes := by
      rw [encodeRespFrame, ← take_eq_respFrameOf hlen, eq_withRxCrc_of_carriedCrc (by omega) hcrc]
    refine ⟨wellFormed_resp_iff.2 ⟨?_, ?_⟩, by rw [encode, hframe]⟩ <;>
      simp only [respFrameOf, List.length_take, List.length_drop] <;> omega
  · rintro ⟨hwf, h⟩
    obtain ⟨f, rfl, rfl⟩ := encode_eq_response h
    obtain ⟨hdata, hmax⟩ := wellFormed_resp_iff.1 hwf
    exact ⟨decodeCandidate_encodeRespFrame cfg hdata, by simpa using hmax, by rw [respFrameOf_encodeRespFrame]⟩

/-! The host port (R118). -/

theorem decodePort_wr (idx : HostIndex) (data : HostData) :
    decodePort (.wr idx data) =
      if idx = 0x000 then
        if low8 data = fnRead then .ok .startRead
        else if low8 data = fnWrite then .ok .startWrite
        else .ok (.startRefuse (low8 data))
      else if idx = 0x009 then .ok .ack
      else .ok (.hwr idx data) := rfl

/-- A function code stands in the low byte of the datum that writes it to `CMD` (R52). -/
@[simp] theorem low8_setWidth (fn : Byte) : low8 (fn.setWidth 32) = fn := by
  simp [low8]

theorem decodePort_of_encode {cfg : Config} {i : Instr} {op : HostOp} (hwf : i.wellFormed cfg = true)
    (h : encode cfg i = some (.port op)) : decodePort op = .ok i := by
  cases i with
  | hrd idx => cases h; rfl
  | hwr idx data =>
    cases h
    obtain ⟨hcmd, hack⟩ : idx ≠ 0x000 ∧ idx ≠ 0x009 := by simpa [Instr.wellFormed] using hwf
    rw [decodePort_wr, if_neg hcmd, if_neg hack]
  | startRead => cases h; rfl
  | startWrite => cases h; rfl
  | startRefuse fn =>
    cases h
    obtain ⟨hread, hwrite⟩ : fn ≠ fnRead ∧ fn ≠ fnWrite := by simpa [Instr.wellFormed] using hwf
    rw [decodePort_wr, if_pos rfl, low8_setWidth, if_neg hread, if_neg hwrite]
  | ack => cases h; rfl
  | _ => cases h

theorem decodePort_wellFormed {cfg : Config} {op : HostOp} {i : Instr} (h : decodePort op = .ok i) :
    i.wellFormed cfg = true := by
  cases op with
  | none => cases h
  | rd idx => cases h; rfl
  | wr idx data =>
    rw [decodePort_wr] at h
    split_ifs at h with hcmd hread hwrite hack <;> cases h
    · rfl
    · rfl
    · simpa [Instr.wellFormed] using ⟨hread, hwrite⟩
    · rfl
    · simpa [Instr.wellFormed] using ⟨hcmd, hack⟩

/-! The statements about the decoder. -/

/-- Settles O11, by the kind of the encoded form. -/
theorem decodeInvertsEncode : Obligations.DecodeInvertsEncode := by
  intro cfg i c hwf h
  cases c with
  | request bytes => exact decodeRequest_eq_ok_iff.2 ⟨hwf, h⟩
  | response bytes => exact decodeResponse_eq_ok_iff.2 ⟨hwf, h⟩
  | port op => exact decodePort_of_encode hwf h

/-- Settles O12. -/
theorem decodedFramesEncodeBack : Obligations.DecodedFramesEncodeBack := fun _ _ _ =>
  ⟨fun h => (decodeRequest_eq_ok_iff.1 h).2, fun h => (decodeResponse_eq_ok_iff.1 h).2⟩

/-- Settles O13, by the kind of the encoded form. -/
theorem decodeAnswersWellFormedInstructions : Obligations.DecodeAnswersWellFormedInstructions := by
  intro cfg c i h
  cases c with
  | request bytes => exact (decodeRequest_eq_ok_iff.1 h).1
  | response bytes => exact (decodeResponse_eq_ok_iff.1 h).1
  | port op => exact decodePort_wellFormed h

/-- Settles O14: each written-out frame is the encoding of its instruction, and each command is read from the index map. -/
theorem writtenOutEncodingsDecode : Obligations.WrittenOutEncodingsDecode :=
  ⟨decodeInvertsEncode _ _ _ rfl (by decide +kernel), decodeInvertsEncode _ _ _ rfl (by decide +kernel),
    decodeInvertsEncode _ _ _ rfl (by decide +kernel), rfl, rfl, rfl⟩

end Sys2Proof.Machine

/-! The meanings of the three frame formats (assumption 9): what a request frame shows on the transmit port, and how a response frame
completes the operation. -/

namespace Sys2Proof.Machine

theorem exec_reqRead (station : Byte) (address count : Word) (s : State) :
    exec (.reqRead station address count) s = .next (offerFrame (encodeReadFrame s.cfg station address count) s) := rfl

theorem exec_reqWrite (station : Byte) (address count : Word) (words : List Word) (s : State) :
    exec (.reqWrite station address count words) s = .next (offerFrame (encodeWriteFrame s.cfg station address count words) s) :=
  rfl

theorem exec_resp (f : RespFrame) (s : State) :
    exec (.resp f) s = .next (if idleExpireSelected s then endCycle (encodeRespFrame s.cfg f) s else s) := rfl

theorem offerFrame_of_tx {s : State} (h : s.phase = .tx) (frame : List Byte) :
    offerFrame frame s = { s with out := { s.out with txValid := true, txData := frame.getD s.txi.toNat 0 } } := if_pos h

theorem offerFrame_of_not_tx {s : State} (h : s.phase ≠ .tx) (frame : List Byte) : offerFrame frame s = s := if_neg h

/-- Settles O25: both rows offer their frame. -/
theorem requestFramesDriveTheTransmitPort : Obligations.RequestFramesDriveTheTransmitPort := by
  intro s station address count words
  rw [exec_reqRead, exec_reqWrite]
  refine ⟨fun hp => ?_, fun hp => ?_⟩
  · exact ⟨by rw [offerFrame_of_tx hp], by rw [offerFrame_of_tx hp]⟩
  · exact ⟨by rw [offerFrame_of_not_tx hp], by rw [offerFrame_of_not_tx hp]⟩

/-- The idle timeout is due at 35 bit times of silence, this tick's included (R158, R175). -/
theorem idleExpireSelected_iff (s : State) :
    idleExpireSelected s ↔ s.phase = .wait ∧ 35 * s.bauddiv.toNat ≤ s.sil.toNat + 1 := by
  rw [idleExpireSelected, idleTicksOf, idleTicks_toNat]

/-- Word `i` of a response is its two data bytes, high byte first (R85, R244). -/
theorem projectWords_encodeRespFrame_getD (cfg : Config) {f : RespFrame} (h : f.byteCount.toNat ≤ f.data.length) {i : Nat}
    (hi : i < f.byteCount.toNat / 2) :
    (projectWords (encodeRespFrame cfg f) (f.byteCount.toNat / 2)).getD i 0 =
      joinBytes (f.data.getD (2 * i) 0) (f.data.getD (2 * i + 1) 0) := by
  rw [projectWords_getD _ hi, encodeRespFrame_getD_data cfg f (by omega), show 4 + 2 * i = 3 + (2 * i + 1) by omega,
    encodeRespFrame_getD_data cfg f (by omega)]

/-- A response whose declared data are in place ends the receive cycle by completing the operation with its projection. -/
theorem endCycle_encodeRespFrame {f : RespFrame} (h : f.byteCount.toNat ≤ f.data.length) (s : State) :
    endCycle (encodeRespFrame s.cfg f) s = completeWith (projectFrame (encodeRespFrame s.cfg f)) s := by
  rcases endCycle_cases (encodeRespFrame s.cfg f) s with ⟨hnil, -⟩ | ⟨-, hcycle⟩
  · exact absurd (congrArg List.length hnil) (by simp)
  · rw [hcycle, handOver, decodeCandidate_encodeRespFrame s.cfg h]
    rfl

/-- Settles O35: the tick hands the frame over, `DECODE` accepts it, and its projection holds the frame's header and words. -/
theorem responseFramesCompleteTheOperation : Obligations.ResponseFramesCompleteTheOperation := by
  intro s f hp hdue hwf
  obtain ⟨hdata, -⟩ := wellFormed_resp_iff.1 hwf
  have hsel : idleExpireSelected s := (idleExpireSelected_iff s).2 ⟨hp, hdue⟩
  refine ⟨⟨(storeFrame (projectFrame (encodeRespFrame s.cfg f)) s).rword, ?_, fun i => ?_⟩, fun hcand => ?_⟩
  · rw [exec_resp, if_pos hsel, endCycle_encodeRespFrame hdata, projectFrame_encodeRespFrame]
    rfl
  · rw [storeFrame_rword, projectFrame_encodeRespFrame]
    simp only [Fin.getElem_fin, Vector.getElem_ofFn]
    split
    · next hi => exact projectWords_encodeRespFrame_getD s.cfg hdata hi
    · rfl
  · rw [exec_eq_after, after_idleExpire, exec_resp, if_pos hsel, if_pos hsel, hcand]

end Sys2Proof.Machine

/-! The ports of a tick (spec/40_timing_and_ports.md): what the outputs show, which inputs a phase ignores, and how the bytes of a
request leave. -/

namespace Sys2Proof.Machine

/-- Settles O9: the product of R158 fits 22 bits (`idleTicks_toNat`). -/
theorem idleTimeoutIsThirtyFiveDividers : Obligations.IdleTimeoutIsThirtyFiveDividers := fun _ b =>
  ⟨idleTicks b, rfl, idleTicks_toNat b⟩

section IgnoredInputs

/-- Two inputs of the next tick that agree in the reset and the host operation, and whose phase actions leave the same, make the same
tick. -/
theorem step_congr_input {s : State} {inp inp' : TickInput} (rest : List TickInput) (hrst : inp.rst = inp'.rst)
    (hhost : inp.host = inp'.host) (hphase : ∀ u, afterAll (phaseOps inp s) u = afterAll (phaseOps inp' s) u) :
    step { s with inputs := inp :: rest } = step { s with inputs := inp' :: rest } := by
  have hoffered : offered { s with inputs := inp :: rest } = offered { s with inputs := inp' :: rest } := rfl
  cases hr : inp.rst with
  | true =>
    rw [step_eq_of_reset (s := { s with inputs := inp :: rest }) hr,
      step_eq_of_reset (s := { s with inputs := inp' :: rest }) (hrst.symm.trans hr), hoffered]
  | false =>
    rw [step_eq_of_no_reset (s := { s with inputs := inp :: rest }) hr,
      step_eq_of_no_reset (s := { s with inputs := inp' :: rest }) (hrst.symm.trans hr), hoffered]
    exact congrArg Host.Outcome.next ((hphase _).trans (by rw [currentInput_cons rfl, currentInput_cons rfl, hhost]; rfl))

/-- Outside `PHASE = WAIT` the phase action leaves the same with and without a character (R153). -/
theorem afterAll_phaseOps_rx {s : State} (h : s.phase ≠ .wait) (inp : TickInput) (rx : Option Byte) (u : State) :
    afterAll (phaseOps { inp with rx := rx } s) u = afterAll (phaseOps inp s) u := by
  cases hp : s.phase with
  | idle => rw [phaseOps_idle hp, phaseOps_idle hp, afterAll_discardOps, afterAll_discardOps]
  | tx =>
    rw [phaseOps_tx hp, phaseOps_tx hp, afterAll_append, afterAll_append, afterAll_discardOps, afterAll_discardOps]
    rfl
  | wait => exact absurd hp h

/-- Outside `PHASE = TX` the phase action does not depend on `tx_ready` (R154). -/
theorem phaseOps_txReady {s : State} (h : s.phase ≠ .tx) (inp : TickInput) (ready : Bool) :
    phaseOps { inp with txReady := ready } s = phaseOps inp s := by
  cases hp : s.phase with
  | idle => rw [phaseOps_idle hp, phaseOps_idle hp]; rfl
  | tx => exact absurd hp h
  | wait => rw [phaseOps_wait hp, phaseOps_wait hp]; rfl

/-- Settles O31. -/
theorem charactersOutsideWaitAreDiscarded : Obligations.CharactersOutsideWaitAreDiscarded := fun _ hp =>
  ⟨rfl, fun inp rest b => step_congr_input rest rfl rfl fun u =>
    (afterAll_phaseOps_rx hp inp (some b) u).trans (afterAll_phaseOps_rx hp inp none u).symm⟩

end IgnoredInputs

section Outputs

/-- The outputs of a tick before its operations are performed: functions of the state alone (R154, R157). -/
theorem offered_out (s : State) :
    (offered s).out =
      { txValid := decide (s.phase = .tx), txData := if s.phase = .tx then (reqFrame s).getD s.txi.toNat 0 else 0,
        hRdata := 0, doneO := s.done, busyO := busy s, transferred := none } := by
  by_cases hp : s.phase = .tx
  · rw [offered, offerFrame_of_tx (s := sampled s) hp]; simp [hp]
  · rw [offered, offerFrame_of_not_tx (s := sampled s) hp]; simp [hp]

@[simp] theorem startCommand_out (fn : Byte) (s : State) : (startCommand fn s).out = s.out := by
  rcases startCommand_cases fn s with ⟨-, h⟩ | ⟨-, h⟩ <;> rw [h]
  · exact acceptStart_out s fn
  · exact refuseStart_out s _

@[simp] theorem writeHost_out (idx : HostIndex) (data : HostData) (s : State) : (writeHost idx data s).out = s.out := by
  rcases writeHost_cases idx data s with ⟨-, h⟩ | ⟨-, -, h⟩ | ⟨-, -, h⟩ | ⟨-, -, -, h⟩ <;> rw [h]
  · exact startCommand_out _ s
  · exact acknowledge_out s
  · rw [storeHost_frame]

/-- A host operation writes no port but `h_rdata` (R156). -/
theorem afterHost_out (op : HostOp) (s : State) :
    (afterHost op s).out = { s.out with hRdata := (afterHost op s).out.hRdata } := by
  cases op with
  | none => rfl
  | rd idx => rfl
  | wr idx data => rw [afterHost, writeHost_out]

@[simp] theorem handOver_out (buf : List Byte) (s : State) : (handOver buf s).out = s.out := by
  rcases handOver_cases buf s with ⟨f, -, h⟩ | ⟨-, h⟩ | ⟨-, h⟩ | ⟨-, h⟩ <;> rw [h] <;> rfl

@[simp] theorem endCycle_out (buf : List Byte) (s : State) : (endCycle buf s).out = s.out := by
  rcases endCycle_cases buf s with ⟨-, h⟩ | ⟨-, h⟩ <;> rw [h] <;> simp

/-- No operation of the phase action in `PHASE = WAIT` writes a port. -/
theorem waitOp_keeps_out {i : Instr} (hi : IsWaitOp i) (s : State) : (after i s).out = s.out := by
  cases hi with
  | rxByte data => rw [after_rxByte]; split <;> rfl
  | rxDrop => rw [after_rxDrop]; split <;> rfl
  | silTick => rw [after_silTick]; split <;> rfl
  | idleExpire => rw [after_idleExpire]; split <;> simp
  | waitTick => rw [after_waitTick]; split <;> rfl
  | waitExpire => rw [after_waitExpire]; split <;> rfl

/-- Outside `PHASE = TX` the phase action writes no port. -/
theorem afterAll_phaseOps_out {s : State} (h : s.phase ≠ .tx) (inp : TickInput) (u : State) :
    (afterAll (phaseOps inp s) u).out = u.out := by
  cases hp : s.phase with
  | idle => rw [phaseOps_idle hp, afterAll_discardOps]
  | tx => exact absurd hp h
  | wait =>
    rw [phaseOps_wait hp]
    exact afterAll_induction (P := fun v => v.out = u.out)
      (fun i hi v hv => (waitOp_keeps_out (isWaitOp_of_mem hi) v).trans hv) rfl

end Outputs

section TransmitTick

/-- The state on which the phase action of a tick without reset is performed: the outputs are set and the host operation is done. -/
def hosted (s : State) : State := afterHost (currentInput s).host (offered s)

theorem hosted_out (s : State) : (hosted s).out = { (offered s).out with hRdata := (hosted s).out.hRdata } :=
  afterHost_out _ (offered s)

/-- While the block is active, `hosted` differs from the state before the tick in the verdict on a command and the model's own
fields. -/
theorem hosted_of_active {s : State} (h : s.phase ≠ .idle) :
    hosted s = { s with inputs := s.inputs.tail, tick := s.tick + 1, cmderr := (hosted s).cmderr,
                        cmdcause := (hosted s).cmdcause, out := (hosted s).out } := by
  have hactive : (offered s).phase ≠ .idle := by rwa [offered_phase]
  have hhost := afterHost_active hactive (currentInput s).host
  rw [offered_frame] at hhost
  unfold hosted
  rw [offered_frame]
  exact hhost

/-- Offering a byte that the port already offers changes nothing. -/
theorem offerFrame_of_offered {s : State} {frame : List Byte} (hvalid : s.out.txValid = true)
    (hdata : s.out.txData = frame.getD s.txi.toNat 0) : offerFrame frame s = s := by
  rcases offerFrame_cases frame s with ⟨-, h⟩ | ⟨-, h⟩ <;> rw [h]
  rw [← hdata, ← hvalid]

variable {s : State}

section Tx

variable (hp : s.phase = .tx)
include hp

theorem ne_idle_of_tx : s.phase ≠ .idle := by rw [hp]; nofun

theorem hosted_phase_of_tx : (hosted s).phase = .tx := by rw [hosted_of_active (ne_idle_of_tx hp)]; exact hp

theorem hosted_txi_of_tx : (hosted s).txi = s.txi := by rw [hosted_of_active (ne_idle_of_tx hp)]

theorem reqFrame_hosted_of_tx : reqFrame (hosted s) = reqFrame s := by rw [hosted_of_active (ne_idle_of_tx hp)]; rfl

/-- The host operation leaves the byte `TXI` on the transmit port, so offering it once more changes nothing. -/
theorem offerFrame_hosted : offerFrame (reqFrame (hosted s)) (hosted s) = hosted s := by
  refine offerFrame_of_offered ?_ ?_
  · rw [hosted_out, offered_out]; simp [hp]
  · rw [hosted_out, offered_out, reqFrame_hosted_of_tx hp, hosted_txi_of_tx hp]; simp [hp]

/-- The transfer writes the byte `TXI` into the record of the tick, and nothing else. -/
theorem transferByte_hosted :
    transferByte (hosted s) =
      { hosted s with out := { (hosted s).out with transferred := some ((reqFrame s).getD s.txi.toNat 0) } } := by
  unfold transferByte
  rw [offerFrame_hosted hp, frameByte, reqFrame_hosted_of_tx hp, hosted_txi_of_tx hp]

theorem txByteSelected_hosted : txByteSelected (hosted s) ↔ txByteSelected s := by
  rw [txByteSelected, txByteSelected, reqLen, reqLen, hosted_phase_of_tx hp, hosted_txi_of_tx hp, reqFrame_hosted_of_tx hp, hp]

theorem txLastSelected_hosted : txLastSelected (hosted s) ↔ txLastSelected s := by
  rw [txLastSelected, txLastSelected, reqLen, reqLen, hosted_phase_of_tx hp, hosted_txi_of_tx hp, reqFrame_hosted_of_tx hp, hp]

/-- What a tick in `PHASE = TX` does: it stalls, it transfers a byte that is not the last, or it transfers the last. The fourth case,
`TXI` outside the frame, does not occur under the invariants (R55 (c)). -/
theorem step_tx_cases (hr : (currentInput s).rst = false) :
    ((currentInput s).txReady = false ∧ step s = .next (hosted s)) ∨
    ((currentInput s).txReady = true ∧ s.txi.toNat + 1 < reqLen s ∧
      step s = .next { transferByte (hosted s) with txi := s.txi + 1 }) ∨
    ((currentInput s).txReady = true ∧ s.txi.toNat + 1 = reqLen s ∧
      step s = .next { clearAssembler (transferByte (hosted s)) with phase := .wait, txi := 0, waitc := 0 }) ∨
    ((currentInput s).txReady = true ∧ reqLen s < s.txi.toNat + 1 ∧ step s = .next (hosted s)) := by
  have hstep : step s = .next (afterAll (transmitOps (currentInput s) s) (hosted s)) := by
    rw [step_eq_of_no_reset hr, phaseOps_tx hp, afterAll_append, afterAll_discardOps]; rfl
  rw [hstep]
  rcases transmitOps_cases (currentInput s) s with ⟨hready, e⟩ | ⟨hready, hsel, e⟩ | ⟨hready, hsel, e⟩ | ⟨hready, hbyte, hlast, e⟩ <;>
    rw [e]
  · refine .inl ⟨hready, ?_⟩
    rw [afterAll_cons, afterAll_nil, after_txStall, offerFrame_hosted hp]
  · refine .inr (.inl ⟨hready, hsel.2, ?_⟩)
    rw [afterAll_cons, afterAll_nil, after_txByte, if_pos ((txByteSelected_hosted hp).2 hsel), hosted_txi_of_tx hp]
  · refine .inr (.inr (.inl ⟨hready, hsel.2, ?_⟩))
    rw [afterAll_cons, afterAll_nil, after_txLast, if_pos ((txLastSelected_hosted hp).2 hsel)]
  · have hne := mt (And.intro hp) hbyte
    have hne' := mt (And.intro hp) hlast
    exact .inr (.inr (.inr ⟨hready, by omega, rfl⟩))

end Tx

/-- The byte that a tick transfers, if any: byte `TXI` of the request frame, on a tick in `PHASE = TX` without reset on which the
transmitter is ready (R154, spec/70_reset_and_hazards.md R340). -/
def transferOf (s : State) : Option Byte :=
  if s.phase = .tx ∧ (currentInput s).txReady = true ∧ (currentInput s).rst = false ∧ s.txi.toNat < reqLen s then
    some ((reqFrame s).getD s.txi.toNat 0)
  else none

theorem transferOf_of_ready (hp : s.phase = .tx) (hready : (currentInput s).txReady = true) (hr : (currentInput s).rst = false)
    (hi : s.txi.toNat < reqLen s) : transferOf s = some ((reqFrame s).getD s.txi.toNat 0) :=
  if_pos ⟨hp, hready, hr, hi⟩

theorem transferOf_of_not_tx (hp : s.phase ≠ .tx) : transferOf s = none := if_neg fun h => hp h.1

theorem transferOf_of_not_ready (hready : (currentInput s).txReady = false) : transferOf s = none :=
  if_neg fun ⟨_, h, _⟩ => Bool.false_ne_true (hready.symm.trans h)

theorem transferOf_of_reset (hr : (currentInput s).rst = true) : transferOf s = none :=
  if_neg fun ⟨_, _, h, _⟩ => Bool.false_ne_true (h.symm.trans hr)

theorem transferOf_of_le (hi : reqLen s ≤ s.txi.toNat) : transferOf s = none :=
  if_neg fun ⟨_, _, _, h⟩ => by omega

/-- Before the phase action no byte is transferred, which is what the tick shows where it transfers none. -/
theorem hosted_out_none (h : transferOf s = none) :
    (hosted s).out = { (offered s).out with hRdata := (hosted s).out.hRdata, transferred := transferOf s } := by
  rw [h, hosted_out, offered_out]

/-- After the transfer the record of the tick holds the byte the tick transfers. -/
theorem transferByte_hosted_out (hp : s.phase = .tx) (h : transferOf s = some ((reqFrame s).getD s.txi.toNat 0)) :
    (transferByte (hosted s)).out =
      { (offered s).out with hRdata := (transferByte (hosted s)).out.hRdata, transferred := transferOf s } := by
  rw [transferByte_hosted hp, hosted_out, h]

variable {t : State}

/-- What a tick shows: of its ports only `h_rdata` and the byte transferred depend on the inputs, everything else is a function of the
state before it (R154, R157), on a tick with reset too. -/
theorem step_out (h : step s = .next t) :
    t.out = { (offered s).out with hRdata := t.out.hRdata, transferred := transferOf s } := by
  cases hr : (currentInput s).rst with
  | true =>
    obtain rfl := Host.Outcome.next.inj ((step_eq_of_reset hr).symm.trans h)
    rw [transferOf_of_reset hr, resetBlock_out, offered_out]
  | false =>
    by_cases hp : s.phase = .tx
    · rcases step_tx_cases hp hr with ⟨hready, e⟩ | ⟨hready, hi, e⟩ | ⟨hready, hi, e⟩ | ⟨hready, hi, e⟩ <;>
        obtain rfl := Host.Outcome.next.inj (e.symm.trans h)
      · exact hosted_out_none (transferOf_of_not_ready hready)
      · exact transferByte_hosted_out hp (transferOf_of_ready hp hready hr (by omega))
      · exact transferByte_hosted_out hp (transferOf_of_ready hp hready hr (by omega))
      · exact hosted_out_none (transferOf_of_le (by omega))
    · obtain rfl := Host.Outcome.next.inj ((step_eq_of_no_reset hr).symm.trans h)
      rw [afterAll_phaseOps_out hp]
      exact hosted_out_none (transferOf_of_not_tx hp)

/-- Under the invariants `TXI` is inside the frame (R55 (c)), so the first three conditions decide the transfer. -/
theorem BoundaryInv.transferOf_eq (b : BoundaryInv s) :
    transferOf s = if s.phase = .tx ∧ (currentInput s).txReady = true ∧ (currentInput s).rst = false then
      some ((reqFrame s).getD s.txi.toNat 0) else none := by
  refine if_congr ⟨fun ⟨hp, hready, hr, _⟩ => ⟨hp, hready, hr⟩, fun ⟨hp, hready, hr⟩ => ?_⟩ rfl rfl
  obtain ⟨-, -, -, -, -, hi⟩ := b.txClear hp
  exact ⟨hp, hready, hr, hi⟩

end TransmitTick

/-- Settles O52: the outputs are those of `step_out`. -/
theorem txReadyMattersOnlyWhileTransmitting : Obligations.TxReadyMattersOnlyWhileTransmitting := by
  intro s inp rest t
  refine ⟨fun hp => ?_, fun hin h b => ?_, fun h => ?_⟩
  · exact step_congr_input rest rfl rfl fun u => by
      rw [phaseOps_txReady hp inp true, phaseOps_txReady hp inp false]
  · have htransfer := b.transferOf_eq
    rw [currentInput_cons hin] at htransfer
    rw [step_out h, offered_out]
    refine ⟨decide_eq_true_iff, rfl, htransfer.trans ?_⟩
    refine ite_congr rfl (fun hc => ?_) fun _ => rfl
    rw [if_pos hc.1]
  · rw [step_out h, offered_out]
    exact ⟨rfl, decide_eq_true_iff⟩

section Run

/-- A run of one tick more is the run and then the tick. -/
theorem runTicks_succ {n : Nat} {s t : State} (h : runTicks n s = .next t) : runTicks (n + 1) s = step t := by
  induction n generalizing s with
  | zero =>
    obtain rfl := Host.Outcome.next.inj h
    rw [runTicks]
    cases step s <;> rfl
  | succ n ih =>
    rw [runTicks] at h ⊢
    cases hs : step s with
    | next u => rw [hs] at h; exact ih h
    | fault r => rw [hs] at h; exact nomatch h
    | refused r => rw [hs] at h; exact nomatch h

/-- The inputs of the first ticks of a queue are those at its front. -/
theorem currentInput_mem_of_drop {s : State} {l rest : List TickInput} {j : Nat} (h : s.inputs = (l ++ rest).drop j)
    (hj : j < l.length) : currentInput s ∈ l := by
  rw [List.drop_append_of_le_length hj.le, List.drop_eq_getElem_cons hj, List.cons_append] at h
  rw [currentInput_cons h]
  exact List.getElem_mem hj

/-- `t` stands before byte `j` of the request that `s` sends from its first byte, `j` ticks later. -/
structure SendingByte (s : State) (j : Nat) (t : State) : Prop where
  inv    : BoundaryInv t
  phase  : t.phase = .tx
  txi    : t.txi.toNat = j
  frame  : reqFrame t = reqFrame s
  inputs : t.inputs = s.inputs.drop j

variable {s t : State} {j : Nat}

theorem SendingByte.refl (b : BoundaryInv s) (hp : s.phase = .tx) (htxi : s.txi = 0) : SendingByte s 0 s :=
  ⟨b, hp, by simp [htxi], rfl, rfl⟩

theorem SendingByte.reqLen_eq (h : SendingByte s j t) : reqLen t = reqLen s := congrArg List.length h.frame

section Ready

variable (h : SendingByte s j t) (hr : (currentInput t).rst = false) (hready : (currentInput t).txReady = true)
include h hr hready

/-- The tick transfers byte `j`. -/
theorem SendingByte.transferred {u : State} (hu : step t = .next u) :
    u.out.transferred = some ((reqFrame s).getD j 0) := by
  obtain ⟨-, -, -, -, -, hi⟩ := h.inv.txClear h.phase
  rw [step_out hu, transferOf_of_ready h.phase hready hr hi, h.txi, h.frame]

/-- A byte that is not the last is followed by the next. -/
theorem SendingByte.next (hj : j + 1 < reqLen s) : ∃ u, step t = .next u ∧ SendingByte s (j + 1) u := by
  have htxi := h.txi
  have hlen := h.reqLen_eq
  rcases step_tx_cases h.phase hr with ⟨hstall, -⟩ | ⟨-, hi, e⟩ | ⟨-, hi, -⟩ | ⟨-, hi, -⟩
  · exact absurd (hstall.symm.trans hready) Bool.false_ne_true
  · have hle : reqLen t ≤ 2 ^ 9 := (h.inv.reqLen_le (ne_idle_of_tx h.phase)).trans (by decide)
    refine ⟨_, e, stepKeepsTheBoundaryInvariant t _ h.inv e, ?_, ?_, ?_, ?_⟩
    · exact (transferByte_phase _).trans (hosted_phase_of_tx h.phase)
    · rw [← htxi]; exact toNat_add_one hi hle
    · rw [← h.frame, ← reqFrame_hosted_of_tx h.phase]
      exact reqFrame_eq_of_operands (operandsOf_transferByte (hosted t))
    · rw [transferByte_hosted h.phase, hosted_of_active (ne_idle_of_tx h.phase)]
      exact (congrArg List.tail h.inputs).trans List.tail_drop
  · omega
  · omega

/-- After the last byte the receive window is open. -/
theorem SendingByte.last (hj : j + 1 = reqLen s) :
    ∃ u, step t = .next u ∧ u.phase = .wait ∧ u.len = 0 ∧ u.sil = 0 ∧ u.waitc = 0 ∧ u.inputs = s.inputs.drop (j + 1) := by
  have htxi := h.txi
  have hlen := h.reqLen_eq
  rcases step_tx_cases h.phase hr with ⟨hstall, -⟩ | ⟨-, hi, -⟩ | ⟨-, -, e⟩ | ⟨-, hi, -⟩
  · exact absurd (hstall.symm.trans hready) Bool.false_ne_true
  · omega
  · refine ⟨_, e, rfl, rfl, rfl, rfl, ?_⟩
    rw [transferByte_hosted h.phase, hosted_of_active (ne_idle_of_tx h.phase)]
    exact (congrArg List.tail h.inputs).trans List.tail_drop
  · omega

end Ready

section Queue

variable {l rest : List TickInput} (hin : s.inputs = l ++ rest) (hlen : l.length = reqLen s)
  (hl : ∀ inp ∈ l, inp.rst = false ∧ inp.txReady = true)
include hin hlen hl

theorem SendingByte.input_ready (h : SendingByte s j t) (hj : j < reqLen s) :
    (currentInput t).rst = false ∧ (currentInput t).txReady = true :=
  hl _ (currentInput_mem_of_drop (rest := rest) (hin ▸ h.inputs) (hlen ▸ hj))

/-- With the transmitter ready on every tick of `l`, byte `j` stands before tick `j + 1`. -/
theorem runTicks_sendingByte (h0 : SendingByte s 0 s) (hj : j < reqLen s) :
    ∃ t, runTicks j s = .next t ∧ SendingByte s j t := by
  induction j with
  | zero => exact ⟨s, rfl, h0⟩
  | succ j ih =>
    obtain ⟨t, ht, h⟩ := ih (by omega)
    obtain ⟨hr, hready⟩ := h.input_ready hin hlen hl (by omega)
    obtain ⟨u, hu, h'⟩ := h.next hr hready hj
    exact ⟨u, (runTicks_succ ht).trans hu, h'⟩

end Queue

end Run

/-- Settles O55: byte `j` stands before tick `j + 1`, which transfers it; the tick after the last byte opens the receive window. -/
theorem requestBytesLeaveInOrder : Obligations.RequestBytesLeaveInOrder := by
  intro s l rest b hp htxi hin hlen hl
  have h0 : SendingByte s 0 s := .refl b hp htxi
  refine ⟨fun j hj => ?_, ?_⟩
  · obtain ⟨t, ht, h⟩ := runTicks_sendingByte hin hlen hl h0 hj
    obtain ⟨hr, hready⟩ := h.input_ready hin hlen hl hj
    have hu : step t = .next (afterAll (phaseOps (currentInput t) t) (hosted t)) := step_eq_of_no_reset hr
    exact ⟨_, (runTicks_succ ht).trans hu, h.transferred hr hready hu⟩
  · obtain ⟨-, -, -, -, -, hpos⟩ := b.txClear hp
    obtain ⟨n, hn⟩ : ∃ n, n + 1 = reqLen s := ⟨reqLen s - 1, by omega⟩
    obtain ⟨t, ht, h⟩ := runTicks_sendingByte hin hlen hl h0 (j := n) (by omega)
    obtain ⟨hr, hready⟩ := h.input_ready hin hlen hl (by omega)
    obtain ⟨u, hu, hphase, hulen, hsil, hwaitc, hinputs⟩ := h.last hr hready hn
    refine ⟨u, hn ▸ (runTicks_succ ht).trans hu, hphase, hulen, hsil, hwaitc, ?_⟩
    rw [hinputs, hn, ← hlen, hin, List.drop_left]

end Sys2Proof.Machine

/-! The Frame Assembler's operations (spec/41_frame_assembler.md R172 to R175): what each leaves where its condition selects it. -/

namespace Sys2Proof.Machine

/-- `IDLETK` is 35 dividers (spec/40_timing_and_ports.md R158). -/
theorem idleTicksOf_eq (s : State) : idleTicksOf s = 35 * s.bauddiv.toNat := idleTicks_toNat s.bauddiv

/-- `SIL` counts a silent tick below the timeout without wrapping (spec/10_state.md R42). -/
theorem sil_add_one_toNat {s : State} (h : s.sil.toNat + 1 < idleTicksOf s) : (s.sil + 1).toNat = s.sil.toNat + 1 :=
  toNat_add_one h (idleTicks s.bauddiv).isLt.le

/-- Settles O29. -/
theorem rxByteAppendsOneCharacter : Obligations.RxByteAppendsOneCharacter := by
  intro s b hp hroom hwf
  refine ⟨memWrite s.fb s.len b, ?_, memRead_memWrite_same s.len b hwf, fun a ha => memRead_memWrite_ne s.fb b ha,
    memWrite_wf s.len b hwf⟩
  rw [exec_eq_after, after_rxByte, if_pos ⟨hp, hroom⟩]

/-- Settles O30. -/
theorem rxDropLosesTheCharacter : Obligations.RxDropLosesTheCharacter := by
  intro s hp hfull
  rw [exec_eq_after, after_rxDrop, if_pos ⟨hp, hfull.ge⟩]
  rfl

/-- Settles O32. -/
theorem silTickCountsSilence : Obligations.SilTickCountsSilence := by
  intro s hp hlt
  rw [← idleTicksOf_eq] at hlt
  refine ⟨{ s with sil := s.sil + 1 }, ?_, rfl, sil_add_one_toNat hlt⟩
  rw [exec_eq_after, after_silTick, if_pos ⟨hp, hlt⟩]

/-- A non-empty candidate frame at the idle timeout is handed over, and the buffer is emptied (R175). -/
theorem exec_idleExpire_of_pos {s : State} (hsel : idleExpireSelected s) (hlen : 0 < s.len) :
    exec .idleExpire s = .next (clearAssembler (handOver (candidate s) s)) := by
  rw [exec_eq_after, after_idleExpire, if_pos hsel, endCycle, if_neg (by rw [candidate_length]; omega)]

/-- Settles O33: the candidate frame has `LEN` bytes, and what `DECODE` answers for it decides the hand-over. A completion has emptied
the buffer already. -/
theorem idleExpireEndsTheReceiveCycle : Obligations.IdleExpireEndsTheReceiveCycle := by
  intro s hp hdue
  have hsel : idleExpireSelected s := (idleExpireSelected_iff s).2 ⟨hp, hdue⟩
  refine ⟨fun h0 => ?_, fun hlen hd => ?_, fun hlen hd => ?_, fun hlen hd => ?_, fun f hlen hd => ?_⟩
  · rw [exec_eq_after, after_idleExpire, if_pos hsel, endCycle, if_pos ((candidate_length s).trans h0)]
    rfl
  · rw [exec_idleExpire_of_pos hsel hlen, handOver, hd]; rfl
  · rw [exec_idleExpire_of_pos hsel hlen, handOver, hd]; rfl
  · rw [exec_idleExpire_of_pos hsel hlen, handOver, hd]; rfl
  · have hcomplete : exec (.completeOk f) s = .next (completeWith f s) := congrArg Host.Outcome.next (if_pos hp)
    have hexpire : exec .idleExpire s = .next (completeWith f s) := by
      rw [exec_idleExpire_of_pos hsel hlen, handOver, hd]; rfl
    exact ⟨hexpire.trans hcomplete.symm, completeWith f s, hexpire, rfl⟩

/-! The operation that a tick of `PHASE = WAIT` selects (R177, R178). -/

section Selection

variable {inp : TickInput} {s : State}

theorem assemblerOp_of_room {b : Byte} (hrx : inp.rx = some b) (hroom : s.len < s.cfg.maxFrame) :
    assemblerOp inp s = .rxByte b := by
  rw [assemblerOp, hrx]; exact if_pos hroom

theorem assemblerOp_of_full {b : Byte} (hrx : inp.rx = some b) (hfull : s.cfg.maxFrame ≤ s.len) :
    assemblerOp inp s = .rxDrop := by
  rw [assemblerOp, hrx]; exact if_neg hfull.not_gt

theorem assemblerOp_of_silence (hrx : inp.rx = none) (hlt : s.sil.toNat + 1 < idleTicksOf s) :
    assemblerOp inp s = .silTick := by
  rw [assemblerOp, hrx]; exact if_pos hlt

theorem assemblerOp_of_timeout (hrx : inp.rx = none) (hdue : idleTicksOf s ≤ s.sil.toNat + 1) :
    assemblerOp inp s = .idleExpire := by
  rw [assemblerOp, hrx]; exact if_neg hdue.not_gt

theorem isAssemblerOp_assemblerOp (inp : TickInput) (s : State) : isAssemblerOp (assemblerOp inp s) = true := by
  rcases assemblerOp_cases inp s with ⟨_, -, -, e⟩ | ⟨_, -, -, e⟩ | ⟨-, -, e⟩ | ⟨-, -, e⟩ <;> rw [e] <;> rfl

/-! The other operations of a tick are none of the assembler's. -/

theorem filter_offerOps (s : State) : (offerOps s).filter isAssemblerOp = [] := by
  unfold offerOps requestInstr
  split_ifs <;> rfl

theorem filter_hostOps (inp : TickInput) : (hostOps inp).filter isAssemblerOp = [] := by
  unfold hostOps
  cases inp.host with
  | none => rfl
  | rd idx => rfl
  | wr idx data =>
    rw [decodePort_wr]
    split_ifs <;> rfl

theorem filter_discardOps (inp : TickInput) : (discardOps inp).filter isAssemblerOp = [] := by
  unfold discardOps
  split_ifs <;> rfl

theorem filter_transmitOps (inp : TickInput) (s : State) : (transmitOps inp s).filter isAssemblerOp = [] := by
  rcases transmitOps_cases inp s with ⟨-, e⟩ | ⟨-, -, e⟩ | ⟨-, -, e⟩ | ⟨-, -, -, e⟩ <;> rw [e] <;> rfl

theorem filter_waitOps (inp : TickInput) (s : State) : (waitOps inp s).filter isAssemblerOp = [] := by
  rcases waitOps_cases inp s with ⟨-, e⟩ | ⟨-, -, e⟩ | ⟨-, -, e⟩ <;> rw [e] <;> rfl

theorem filter_phaseOps (inp : TickInput) (s : State) :
    (phaseOps inp s).filter isAssemblerOp = if s.phase = .wait then [assemblerOp inp s] else [] := by
  cases hp : s.phase with
  | idle => rw [phaseOps_idle hp, filter_discardOps]; rfl
  | tx => rw [phaseOps_tx hp, List.filter_append, filter_discardOps, filter_transmitOps]; rfl
  | wait => rw [phaseOps_wait hp, List.filter_cons_of_pos (isAssemblerOp_assemblerOp inp s), filter_waitOps]; rfl

theorem filter_tickOps (hr : inp.rst = false) :
    (tickOps inp s).filter isAssemblerOp = if s.phase = .wait then [assemblerOp inp s] else [] := by
  rw [tickOps, hr, if_neg Bool.false_ne_true, List.filter_append, List.filter_append, filter_offerOps, filter_hostOps,
    filter_phaseOps]
  rfl

end Selection

/-- Settles O34: of a tick's operations only `assemblerOp` is one of the assembler's. -/
theorem assemblerPerformsExactlyOneOperation : Obligations.AssemblerPerformsExactlyOneOperation := by
  intro inp s hr
  rw [filter_tickOps hr, ← idleTicksOf_eq]
  refine ⟨?_, fun b hp hrx hroom => ?_, fun b hp hrx hfull => ?_, fun hp hrx hlt => ?_, fun hp hrx hdue => ?_⟩
  · split_ifs <;> rfl
  · rw [if_pos hp, assemblerOp_of_room hrx hroom]
  · rw [if_pos hp, assemblerOp_of_full hrx hfull.ge]
  · rw [if_pos hp, assemblerOp_of_silence hrx hlt]
  · rw [if_pos hp, assemblerOp_of_timeout hrx hdue]

end Sys2Proof.Machine

/-! A tick of `PHASE = WAIT` by the rows of the transition table (spec/41_frame_assembler.md R177). -/

namespace Sys2Proof.Machine

/-- The candidate frame is a function of the buffer and `LEN` (spec/00_scope.md R19). -/
theorem candidate_eq_of_buffer {s t : State} (hfb : t.fb = s.fb) (hlen : t.len = s.len) : candidate t = candidate s := by
  rw [candidate, candidate, hfb, hlen]

/-- A byte written at `LEN` is appended to the candidate frame (R172). -/
theorem candidate_append {s t : State} {b : Byte} (hwf : Memory.wf s.fb = true) (hfb : t.fb = memWrite s.fb s.len b)
    (hlen : t.len = s.len + 1) : candidate t = candidate s ++ [b] := by
  have hbelow : ∀ a ∈ List.range s.len, memRead (memWrite s.fb s.len b) a = memRead s.fb a := fun a ha =>
    memRead_memWrite_ne s.fb b (List.mem_range.1 ha).ne
  rw [candidate, candidate, hfb, hlen, List.range_succ, List.map_append, List.map_congr_left hbelow, List.map_singleton,
    memRead_memWrite_same s.len b hwf]

/-- The tick of `PHASE = WAIT` but for the assembler's operation: the inputs are taken, the host operation is done and `WAIT.TICK`
counts the tick (spec/45_session_and_host.md R270). -/
def listened (s : State) : State :=
  { s with inputs := s.inputs.tail, tick := s.tick + 1, waitc := s.waitc + 1, cmderr := (hosted s).cmderr,
           cmdcause := (hosted s).cmdcause, out := (hosted s).out }

section WaitTick

variable {s : State} (hp : s.phase = .wait) (hr : (currentInput s).rst = false)
include hp

theorem ne_idle_of_wait : s.phase ≠ .idle := by rw [hp]; nofun

include hr

theorem step_wait :
    step s = .next (afterAll (waitOps (currentInput s) s) (after (assemblerOp (currentInput s) s) (hosted s))) := by
  rw [step_eq_of_no_reset hr, phaseOps_wait hp]; rfl

variable (hw : s.waitc.toNat + 1 < s.respto.toNat)
include hw

/-- Unless the idle timeout expires, the overall wait counts the tick after the assembler's operation (R281). -/
theorem step_wait_of_assemblerOp {i : Instr} (hi : assemblerOp (currentInput s) s = i) (hne : i ≠ .idleExpire) :
    step s = .next (after .waitTick (after i (hosted s))) := by
  have hcompletes : completesNow (currentInput s) s = false := by
    unfold completesNow
    split
    · next he _ => exact absurd (hi.symm.trans he) hne
    · rfl
  have hops : waitOps (currentInput s) s = [.waitTick] := by
    rw [waitOps, hcompletes, if_neg Bool.false_ne_true, if_pos hw]
  rw [step_wait hp hr, hi, hops, afterAll_cons, afterAll_nil]

/-- A character that the buffer has room for (R172). -/
theorem step_wait_of_room {b : Byte} (hrx : (currentInput s).rx = some b) (hroom : s.len < s.cfg.maxFrame) :
    step s = .next { listened s with fb := memWrite s.fb s.len b, len := s.len + 1, asm := .receiving, sil := 0 } := by
  rw [step_wait_of_assemblerOp hp hr hw (assemblerOp_of_room hrx hroom) nofun, hosted_of_active (ne_idle_of_wait hp),
    after_rxByte, if_pos ⟨hp, hroom⟩, after_waitTick, if_pos ⟨hp, hw⟩]
  rfl

/-- A character that finds the buffer full (R173). -/
theorem step_wait_of_full {b : Byte} (hrx : (currentInput s).rx = some b) (hfull : s.cfg.maxFrame ≤ s.len) :
    step s = .next { listened s with ovf := true, asm := .receiving, sil := 0 } := by
  rw [step_wait_of_assemblerOp hp hr hw (assemblerOp_of_full hrx hfull) nofun, hosted_of_active (ne_idle_of_wait hp),
    after_rxDrop, if_pos ⟨hp, hfull⟩, after_waitTick, if_pos ⟨hp, hw⟩]
  rfl

/-- A silent tick that does not reach the timeout (R174). -/
theorem step_wait_of_silence (hrx : (currentInput s).rx = none) (hlt : s.sil.toNat + 1 < idleTicksOf s) :
    step s = .next { listened s with sil := s.sil + 1 } := by
  rw [step_wait_of_assemblerOp hp hr hw (assemblerOp_of_silence hrx hlt) nofun, hosted_of_active (ne_idle_of_wait hp),
    after_silTick, if_pos ⟨hp, hlt⟩, after_waitTick, if_pos ⟨hp, hw⟩]
  rfl

end WaitTick

/-- The end of a receive cycle loses no character (R48). -/
theorem endCycle_ovf (buf : List Byte) (s : State) : (endCycle buf s).ovf = s.ovf := by
  rcases endCycle_cases buf s with ⟨-, h⟩ | ⟨-, h⟩ <;> rw [h]
  · rfl
  · rcases handOver_cases buf s with ⟨f, -, hh⟩ | ⟨-, hh⟩ | ⟨-, hh⟩ | ⟨-, hh⟩ <;> rw [hh] <;> rfl

/-- The assembler is empty, with the overflow flag `ovf`. -/
def AssemblerEmpty (ovf : Bool) (s : State) : Prop :=
  s.asm = .idle ∧ s.len = 0 ∧ s.sil = 0 ∧ s.ovf = ovf

/-- The overall wait's operation leaves the assembler empty. -/
theorem afterAll_waitOps_assemblerEmpty {ovf : Bool} {u : State} (h : AssemblerEmpty ovf u) (inp : TickInput) (s : State) :
    AssemblerEmpty ovf (afterAll (waitOps inp s) u) := by
  have ⟨_, _, _, hovf⟩ := h
  rcases waitOps_cases inp s with ⟨-, e⟩ | ⟨-, -, e⟩ | ⟨-, -, e⟩ <;> rw [e]
  · exact h
  · rw [afterAll_cons, afterAll_nil, after_waitTick]
    split <;> exact h
  · rw [afterAll_cons, afterAll_nil, after_waitExpire]
    split
    · exact ⟨rfl, rfl, rfl, hovf⟩
    · exact h

/-- A silent tick that reaches the timeout ends the receive cycle (R175). -/
theorem step_wait_of_timeout {s : State} (hp : s.phase = .wait) (hr : (currentInput s).rst = false)
    (hrx : (currentInput s).rx = none) (hdue : idleTicksOf s ≤ s.sil.toNat + 1) :
    ∃ t, step s = .next t ∧ AssemblerEmpty s.ovf t := by
  refine ⟨_, step_wait hp hr, afterAll_waitOps_assemblerEmpty ?_ _ s⟩
  rw [assemblerOp_of_timeout hrx hdue, hosted_of_active (ne_idle_of_wait hp), after_idleExpire, if_pos ⟨hp, hdue⟩]
  exact ⟨rfl, rfl, rfl, endCycle_ovf _ _⟩

/-- Settles O59: a row of the table for each clause. -/
theorem waitTicksFollowTheTransitionTable : Obligations.WaitTicksFollowTheTransitionTable := by
  intro s b hp hr hw
  have hstep := step_wait hp hr
  refine ⟨_, hstep, fun c hrx hroom => ?_, fun c hrx hfull => ?_, fun hrx hlt => ?_, fun hrx hdue => ?_⟩
  · rw [Host.Outcome.next.inj (hstep.symm.trans (step_wait_of_room hp hr hw hrx hroom))]
    refine ⟨rfl, rfl, fun hidle => ?_, rfl, candidate_append b.bufferWf rfl rfl, rfl⟩
    have hlen : s.len = 0 := Nat.eq_zero_of_not_pos fun hpos => by
      rw [b.receiving.2 hpos] at hidle; exact nomatch hidle
    exact congrArg (· + 1) hlen
  · rw [Host.Outcome.next.inj (hstep.symm.trans (step_wait_of_full hp hr hw hrx hfull.ge))]
    exact ⟨rfl, rfl, rfl, candidate_eq_of_buffer rfl rfl, rfl⟩
  · rw [← idleTicksOf_eq] at hlt
    rw [Host.Outcome.next.inj (hstep.symm.trans (step_wait_of_silence hp hr hw hrx hlt))]
    exact ⟨rfl, rfl, sil_add_one_toNat hlt, candidate_eq_of_buffer rfl rfl, rfl⟩
  · rw [← idleTicksOf_eq] at hdue
    obtain ⟨t, ht, hempty⟩ := step_wait_of_timeout hp hr hrx hdue
    rw [Host.Outcome.next.inj (hstep.symm.trans ht)]
    exact hempty

end Sys2Proof.Machine

/-! The framing law (spec/41_frame_assembler.md R180): the run is followed tick by tick, with the frame received so far, the silence
since its last character and what is still to come. -/

namespace Sys2Proof.Machine

section Framing

/-- The queue begins with inputs without reset whose receive ports show `r`, a character or none on each tick. -/
def Presents (r : List (Option Byte)) (inputs : List TickInput) : Prop :=
  ∃ l rest, inputs = l ++ rest ∧ l.map (·.rx) = r ∧ ∀ inp ∈ l, inp.rst = false

variable {s t : State} {n j k : Nat} {buf : List Byte} {x : Option Byte} {r : List (Option Byte)}

/-- The next tick takes the first of what the queue presents. -/
theorem Presents.head (h : Presents (x :: r) t.inputs) :
    (currentInput t).rx = x ∧ (currentInput t).rst = false ∧ Presents r t.inputs.tail := by
  obtain ⟨l, rest, hin, hrx, hrst⟩ := h
  obtain ⟨inp, l, rfl, hx, hr⟩ := List.map_eq_cons_iff.1 hrx
  rw [currentInput_cons hin, hin]
  exact ⟨hx, hrst inp List.mem_cons_self, l, rest, rfl, hr, fun i hi => hrst i (List.mem_cons_of_mem inp hi)⟩

/-- `j` ticks after `s`, of `n` in all, the state is `t`: the frame received is `buf`, `k` silent ticks have passed since its last
character, the receive port will show `r`, and the idle timeout has expired on none of the ticks. -/
structure AssemblingFrame (s : State) (n : Nat) (buf : List Byte) (k : Nat) (r : List (Option Byte)) (j : Nat) (t : State) :
    Prop where
  run      : runTicks j s = .next t
  quiet    : ∀ i < j, ∃ u, runTicks i s = .next u ∧ u.phase = .wait ∧ assemblerOp (currentInput u) u ≠ .idleExpire
  inv      : BoundaryInv t
  phase    : t.phase = .wait
  operands : operandsOf t = operandsOf s
  frame    : candidate t = buf
  silence  : t.sil.toNat = k
  coming   : Presents r t.inputs
  ticks    : j + r.length = n
  waits    : t.waitc.toNat + r.length ≤ t.respto.toNat

/-- The run comes to a state that `AssemblingFrame` describes. -/
def Assembles (s : State) (n : Nat) (buf : List Byte) (k : Nat) (r : List (Option Byte)) : Prop :=
  ∃ j t, AssemblingFrame s n buf k r j t

theorem AssemblingFrame.len_eq (h : AssemblingFrame s n buf k r j t) : t.len = buf.length := by
  rw [← candidate_length t, h.frame]

theorem AssemblingFrame.maxFrame_eq (h : AssemblingFrame s n buf k r j t) : t.cfg.maxFrame = s.cfg.maxFrame :=
  congrArg (·.cfg.maxFrame) h.operands

theorem AssemblingFrame.idleTicksOf_eq (h : AssemblingFrame s n buf k r j t) : idleTicksOf t = idleTicksOf s :=
  idleTicksOf_eq_of_operands h.operands

/-- While more than one tick is to come, the overall wait is not used up. -/
theorem AssemblingFrame.waitc_lt (h : AssemblingFrame s n buf k (x :: r) j t) (hr : r ≠ []) :
    t.waitc.toNat + 1 < t.respto.toNat := by
  have hwaits := h.waits
  have hpos := List.length_pos_iff.2 hr
  rw [List.length_cons] at hwaits
  omega

/-- A tick on which the timeout does not expire, whatever the assembler's operation writes. -/
theorem AssemblingFrame.tick {fb : Memory} {len : Nat} {asm : Asm} {sil : BitVec 22} {buf' : List Byte}
    (h : AssemblingFrame s n buf k (x :: r) j t) (hr : r ≠ []) (hop : assemblerOp (currentInput t) t ≠ .idleExpire)
    (hstep : step t = .next { listened t with fb := fb, len := len, asm := asm, sil := sil })
    (hframe : candidate { listened t with fb := fb, len := len, asm := asm, sil := sil } = buf') :
    Assembles s n buf' sil.toNat r := by
  obtain ⟨-, -, hcoming⟩ := h.coming.head
  refine ⟨j + 1, _, (runTicks_succ h.run).trans hstep, fun i hi => ?_, stepKeepsTheBoundaryInvariant t _ h.inv hstep, h.phase,
    h.operands, hframe, rfl, hcoming, ?_, ?_⟩
  · rcases Nat.lt_succ_iff_lt_or_eq.1 hi with hlt | rfl
    · exact h.quiet i hlt
    · exact ⟨t, h.run, h.phase, hop⟩
  · rw [← h.ticks, List.length_cons]; omega
  · have hcount : (t.waitc + 1).toNat = t.waitc.toNat + 1 := toNat_add_one (h.waitc_lt hr) t.respto.isLt.le
    have hwaits := h.waits
    rw [List.length_cons] at hwaits
    have hleft : t.waitc.toNat + 1 + r.length ≤ t.respto.toNat := by omega
    exact (congrArg (· + r.length) hcount).trans_le hleft

/-- A character is appended and ends the silence (R172). -/
theorem Assembles.character {b : Byte} (h : Assembles s n buf k (some b :: r)) (hr : r ≠ [])
    (hroom : buf.length < s.cfg.maxFrame) : Assembles s n (buf ++ [b]) 0 r := by
  obtain ⟨j, t, h⟩ := h
  obtain ⟨hrx, hrst, -⟩ := h.coming.head
  have hfits : t.len < t.cfg.maxFrame := by rwa [h.len_eq, h.maxFrame_eq]
  refine h.tick hr ?_ (step_wait_of_room h.phase hrst (h.waitc_lt hr) hrx hfits) ?_
  · rw [assemblerOp_of_room hrx hfits]; nofun
  · rw [← h.frame]; exact candidate_append h.inv.bufferWf rfl rfl

/-- A silent tick is counted (R174). -/
theorem Assembles.silentTick (h : Assembles s n buf k (none :: r)) (hr : r ≠ []) (hk : k + 1 < idleTicksOf s) :
    Assembles s n buf (k + 1) r := by
  obtain ⟨j, t, h⟩ := h
  obtain ⟨hrx, hrst, -⟩ := h.coming.head
  have hlt : t.sil.toNat + 1 < idleTicksOf t := by rwa [h.silence, h.idleTicksOf_eq]
  have hsil : (t.sil + 1).toNat = k + 1 := by rw [sil_add_one_toNat hlt, h.silence]
  rw [← hsil]
  refine h.tick hr ?_ (step_wait_of_silence h.phase hrst (h.waitc_lt hr) hrx hlt) ?_
  · rw [assemblerOp_of_silence hrx hlt]; nofun
  · exact (candidate_eq_of_buffer rfl rfl).trans h.frame

/-- Silent ticks that stay below the timeout. -/
theorem Assembles.silentTicks {m : Nat} (h : Assembles s n buf k (List.replicate m none ++ r)) (hr : r ≠ [])
    (hk : k + m < idleTicksOf s) : Assembles s n buf (k + m) r := by
  induction m generalizing k with
  | zero => exact h
  | succ m ih =>
    rw [Nat.add_comm m 1, ← Nat.add_assoc]
    exact ih (h.silentTick (List.append_ne_nil_of_right_ne_nil _ hr) (by omega)) (by omega)

/-- Characters that follow one another before the timeout. -/
theorem Assembles.spacedCharacters {spaced : List (Nat × Byte)}
    (h : Assembles s n buf 0 ((spaced.flatMap fun p => List.replicate p.1 none ++ [some p.2]) ++ r)) (hr : r ≠ [])
    (hroom : buf.length + spaced.length ≤ s.cfg.maxFrame) (hspace : ∀ p ∈ spaced, p.1 < idleTicksOf s) :
    Assembles s n (buf ++ spaced.map (·.2)) 0 r := by
  induction spaced generalizing buf with
  | nil => rwa [List.map_nil, List.append_nil]
  | cons p spaced ih =>
    rw [List.flatMap_cons, List.append_assoc, List.append_assoc, List.singleton_append] at h
    rw [List.length_cons] at hroom
    have hgap : 0 + p.1 < idleTicksOf s := by rw [Nat.zero_add]; exact hspace p List.mem_cons_self
    have hnext := (h.silentTicks (List.cons_ne_nil _ _) hgap).character (List.append_ne_nil_of_right_ne_nil _ hr) (by omega)
    rw [List.map_cons, List.append_cons]
    refine ih hnext ?_ fun q hq => hspace q (List.mem_cons_of_mem p hq)
    rw [List.length_append, List.length_singleton]
    omega

end Framing

/-- Settles O56: the characters are followed one by one, then the silence up to its last tick, on which the timeout expires. -/
theorem spacedCharactersMakeOneCandidateFrame : Obligations.SpacedCharactersMakeOneCandidateFrame := by
  intro s l rest first spaced b hp hlen hin hrst hrx hroom hspace hwait
  obtain ⟨-, hbaud, -⟩ := b.activeLegal (ne_idle_of_wait hp)
  obtain ⟨m, hm⟩ : ∃ m, idleTicksOf s = m + 1 := Nat.exists_eq_add_one.2 (idleTicksOf_pos hbaud)
  rw [hm, List.replicate_succ'] at hrx
  have hempty : candidate s = [] := List.length_eq_zero_iff.1 ((candidate_length s).trans hlen)
  have hstart : Assembles s l.length [] s.sil.toNat (l.map (·.rx)) :=
    ⟨0, s, rfl, nofun, b, hp, rfl, hempty, rfl, ⟨l, rest, hin, rfl, hrst⟩, by rw [List.length_map, Nat.zero_add],
      by rwa [List.length_map]⟩
  rw [hrx] at hstart
  have hfirst : Assembles s l.length [first] 0 _ := hstart.character (by simp) (by rw [List.length_nil]; omega)
  have hall := hfirst.spacedCharacters (by simp) (by rw [List.length_singleton]; omega) hspace
  obtain ⟨j, t, h⟩ := hall.silentTicks (List.cons_ne_nil _ _) (by omega)
  have hlast : l.length - 1 = j := by rw [← h.ticks, List.length_singleton, Nat.add_sub_cancel]
  obtain ⟨hnone, -, -⟩ := h.coming.head
  rw [hlast]
  refine ⟨⟨t, h.run, h.phase, h.frame, assemblerOp_of_timeout hnone ?_⟩, h.quiet⟩
  rw [h.idleTicksOf_eq, h.silence, hm, Nat.zero_add]

end Sys2Proof.Machine

/-! The check value (spec/42_crc16.md R201 to R206): what the four functions answer, why one shift loses nothing of the register, and
how a difference in one byte lasts to the end of the message. -/

namespace Sys2Proof.Machine

theorem exec_crc16Byte (c : Word) (b : Byte) (s : State) :
    exec (.crc16Byte c b) s = .next { s with result := .word (crcByte s.cfg c b) } := rfl

theorem exec_crc16 (m : List Byte) (s : State) : exec (.crc16 m) s = .next { s with result := .word (crcOf s.cfg m) } := rfl

theorem exec_crcSplit (c : Word) (s : State) :
    exec (.crcSplit c) s = .next { s with result := .split (loByte c) (hiByte c) } := rfl

theorem exec_crcVerify (m : List Byte) (x : Word) (s : State) :
    exec (.crcVerify m x) s = .next { s with result := .flag (verifyCrc s.cfg m x) } := rfl

theorem verifyCrc_eq_true_iff {cfg : Config} {m : List Byte} {x : Word} : verifyCrc cfg m x = true ↔ crcOf cfg m = x :=
  decide_eq_true_iff

theorem loByte_toNat (v : Word) : (loByte v).toNat = v.toNat % 256 := BitVec.extractLsb'_toNat 0 8 v

theorem hiByte_toNat (v : Word) : (hiByte v).toNat = v.toNat / 256 := by
  have hv := v.isLt
  rw [hiByte, BitVec.extractLsb'_toNat, Nat.shiftRight_eq_div_pow]
  omega

/-- The `repeat` of R201 is the iteration of its one shift. -/
theorem crcShifts_eq_iterate (poly : Word) (n : Nat) : crcShifts poly n = (crcShift poly)^[n] := by
  induction n with
  | zero => rfl
  | succ n ih => funext c; rw [crcShifts, ih, Function.iterate_succ_apply]

/-! R206's ground: with bit 15 of the polynomial set, every stage of the computation is injective. -/

section Injective

variable {cfg : Config} {poly : Word}

/-- The bit shifted out comes back as bit 15. -/
theorem crcShift_getLsbD_fifteen (hpoly : poly.getLsbD 15 = true) (c : Word) :
    (crcShift poly c).getLsbD 15 = c.getLsbD 0 := by
  have hshift : (c >>> 1).getLsbD 15 = false := by rw [BitVec.getLsbD_ushiftRight]; exact BitVec.getLsbD_of_ge c 16 le_rfl
  cases hlow : c.getLsbD 0 with
  | true => rw [crcShift, if_pos hlow, BitVec.getLsbD_xor, hshift, hpoly]; rfl
  | false => rw [crcShift, if_neg (by rw [hlow]; exact Bool.false_ne_true), hshift]

/-- Bit 0 and the bits above it are the whole register. -/
theorem eq_of_bit_zero_of_ushiftRight_one {c d : Word} (hlow : c.getLsbD 0 = d.getLsbD 0) (hrest : c >>> 1 = d >>> 1) :
    c = d := by
  refine BitVec.eq_of_getLsbD_eq fun i _ => ?_
  cases i with
  | zero => exact hlow
  | succ i =>
    have hbit := congrArg (BitVec.getLsbD · i) hrest
    simpa only [BitVec.getLsbD_ushiftRight, Nat.add_comm 1 i] using hbit

/-- Bit 15 of the result tells whether the polynomial was folded in, so the shift can be undone. -/
theorem crcShift_injective (hpoly : poly.getLsbD 15 = true) : Function.Injective (crcShift poly) := by
  intro c d h
  have hlow : c.getLsbD 0 = d.getLsbD 0 := by
    rw [← crcShift_getLsbD_fifteen hpoly c, h, crcShift_getLsbD_fifteen hpoly d]
  refine eq_of_bit_zero_of_ushiftRight_one hlow ?_
  unfold crcShift at h
  rw [hlow] at h
  split at h
  · exact (BitVec.xor_left_inj poly).1 h
  · exact h

theorem crcShifts_injective (hpoly : poly.getLsbD 15 = true) (n : Nat) : Function.Injective (crcShifts poly n) := by
  rw [crcShifts_eq_iterate]
  exact (crcShift_injective hpoly).iterate n

theorem crcByte_injective_register (hpoly : cfg.crcPoly.getLsbD 15 = true) (b : Byte) :
    Function.Injective fun c => crcByte cfg c b :=
  fun _ _ h => (BitVec.xor_left_inj _).1 (crcShifts_injective hpoly 8 h)

theorem crcByte_injective_byte (hpoly : cfg.crcPoly.getLsbD 15 = true) (c : Word) : Function.Injective (crcByte cfg c) := by
  intro a b h
  have hwide : a.setWidth 16 = b.setWidth 16 := (BitVec.xor_right_inj c).1 (crcShifts_injective hpoly 8 h)
  simpa using congrArg (BitVec.setWidth 8) hwide

/-- Two different registers stay different over the same bytes. -/
theorem crcFold_injective (hpoly : cfg.crcPoly.getLsbD 15 = true) (m : List Byte) :
    Function.Injective fun c => crcFold cfg c m := by
  induction m with
  | nil => exact fun _ _ h => h
  | cons b m ih => exact ih.comp (crcByte_injective_register hpoly b)

/-- Byte `i` of a message is folded in after the bytes before it and before the bytes after it. -/
theorem crcFold_set (cfg : Config) (c : Word) {m : List Byte} {i : Nat} (hi : i < m.length) (b : Byte) :
    crcFold cfg c (m.set i b) = crcFold cfg (crcByte cfg (crcFold cfg c (m.take i)) b) (m.drop (i + 1)) := by
  rw [List.set_eq_take_append_cons_drop, if_pos hi, crcFold_append, crcFold_cons]

/-- One byte replaced by another changes the check value: the bytes before it give the same register, the byte itself makes it
differ, and the bytes after it keep the difference. -/
theorem crcOf_set_ne (hpoly : cfg.crcPoly.getLsbD 15 = true) {m : List Byte} {i : Nat} (hi : i < m.length) {b : Byte}
    (hb : b ≠ m[i]) : crcOf cfg (m.set i b) ≠ crcOf cfg m := by
  intro h
  have hfold : crcFold cfg crcInit (m.set i b) = crcFold cfg crcInit (m.set i m[i]) := by
    rw [List.set_getElem_self]
    exact (BitVec.xor_left_inj _).1 h
  rw [crcFold_set cfg crcInit hi, crcFold_set cfg crcInit hi] at hfold
  exact hb (crcByte_injective_byte hpoly _ (crcFold_injective hpoly _ hfold))

end Injective

theorem flipBit_ne (b : Byte) {j : Nat} (hj : j < 8) : b ^^^ (1#8 <<< j) ≠ b := by
  intro h
  have hbit := congrArg (BitVec.getLsbD · j) h
  simp [hj] at hbit

/-- Settles O6: on finitely many registers an injection is a bijection. -/
theorem crcByteIsABijectionOfTheRegister : Obligations.CrcByteIsABijectionOfTheRegister := fun _ b hpoly =>
  Finite.injective_iff_bijective.1 (crcByte_injective_register hpoly b)

/-- Settles O5. -/
theorem singleBitErrorsChangeTheChecksum : Obligations.SingleBitErrorsChangeTheChecksum := by
  refine ⟨fun s m => ?_, fun cfg m i j hpoly hi hj => ?_⟩
  · rw [exec_crcVerify, verifyCrc_eq_true_iff.2 rfl]
  · rw [List.getD_eq_getElem m 0 hi]
    exact crcOf_set_ne hpoly hi (flipBit_ne m[i] hj)

/-- Settles O1. -/
theorem crc16ByteIsEightRightShifts : Obligations.Crc16ByteIsEightRightShifts := by
  intro s c r b hr
  rw [exec_crc16Byte, crcByte, crcShifts_eq_iterate, hr]
  rfl

/-- Settles O2: the register function is the fold from `CRC_INIT`. -/
theorem crc16RunsOverTheBytesFromItsInitialValue : Obligations.Crc16RunsOverTheBytesFromItsInitialValue := by
  refine fun s m => ⟨crcFold s.cfg crcInit, exec_crc16 m s, crcFold_nil s.cfg crcInit, fun n b => ?_⟩
  rw [exec_crc16Byte, crcFold_append, crcFold_cons, crcFold_nil]

/-- Settles O3. -/
theorem crcSplitGivesLowAndHighByte : Obligations.CrcSplitGivesLowAndHighByte := fun s c =>
  ⟨loByte c, hiByte c, exec_crcSplit c s, loByte_toNat c, hiByte_toNat c⟩

/-- Settles O4: two answers of `CRC16` are the same state exactly when the delivered values are the same. -/
theorem crcVerifyComparesTheCheckValue : Obligations.CrcVerifyComparesTheCheckValue := by
  refine fun s m x => ⟨verifyCrc s.cfg m x, exec_crcVerify m x s, verifyCrc_eq_true_iff.trans ⟨fun h => ?_, fun h => ?_⟩⟩
  · rw [exec_crc16, h]
  · rw [exec_crc16] at h
    exact FnResult.word.inj (congrArg State.result (Host.Outcome.next.inj h))

end Sys2Proof.Machine

/-! The request encoder (spec/43_request_encoder.md R220 to R224): what the two functions answer, byte by byte, which of the two answers
the frame in flight is, and how its bytes are handed to the transmitter. -/

namespace Sys2Proof.Machine

theorem exec_encodeRead (station : Byte) (address count : Word) (s : State) :
    exec (.encodeRead station address count) s = .next { s with result := .bytes (encodeReadFrame s.cfg station address count) } :=
  rfl

theorem exec_encodeWrite (station : Byte) (address count : Word) (words : List Word) (s : State) :
    exec (.encodeWrite station address count words) s =
      .next { s with result := .bytes (encodeWriteFrame s.cfg station address count words) } := rfl

/-! A frame with the request checksum: its bytes, then the low and the high byte of their check value (R86). -/

theorem withTxCrc_take (cfg : Config) (body : List Byte) : (withTxCrc cfg body).take body.length = body :=
  List.take_left' rfl

theorem withTxCrc_getD_of_lt (cfg : Config) {body : List Byte} {i : Nat} (h : i < body.length) :
    (withTxCrc cfg body).getD i 0 = body.getD i 0 := List.getD_append _ _ _ _ h

theorem withTxCrc_getD_length (cfg : Config) (body : List Byte) :
    (withTxCrc cfg body).getD body.length 0 = loByte (crcOf cfg body) := by
  rw [withTxCrc, List.getD_append_right _ _ _ _ le_rfl, Nat.sub_self]
  rfl

theorem withTxCrc_getD_length_succ (cfg : Config) (body : List Byte) :
    (withTxCrc cfg body).getD (body.length + 1) 0 = hiByte (crcOf cfg body) := by
  rw [withTxCrc, List.getD_append_right _ _ _ _ (Nat.le_add_right _ 1), Nat.add_sub_cancel_left]
  rfl

/-- The byte-count field holds `2 × count` while that fits in a byte (R112). -/
theorem byteCountOf_toNat {count : Word} (h : count.toNat ≤ 127) : (byteCountOf count).toNat = 2 * count.toNat := by
  rw [byteCountOf, loByte_toNat, BitVec.toNat_mul, show (2 : Word).toNat = 2 from rfl]
  omega

/-! The bytes of a write request before its checksum (R112). -/

section WriteBody

variable (cfg : Config) (station : Byte) (address count : Word) (words : List Word)

/-- What the checksum of a write request covers: header, byte-count and data (R221). -/
def writeBody : List Byte :=
  requestHeader station fnWrite address count ++ byteCountOf count :: dataBytes count.toNat words

theorem encodeWriteFrame_eq_withTxCrc :
    encodeWriteFrame cfg station address count words = withTxCrc cfg (writeBody station address count words) := rfl

theorem writeBody_length : (writeBody station address count words).length = 7 + 2 * count.toNat := by
  rw [writeBody, List.length_append, List.length_cons, requestHeader_length, dataBytes_length]
  omega

/-- Byte `7 + j` is byte `j` of the data. -/
theorem writeBody_getD_data (j : Nat) :
    (writeBody station address count words).getD (7 + j) 0 = (dataBytes count.toNat words).getD j 0 := by
  rw [Nat.add_comm]
  rfl

theorem encodeWriteFrame_take_six :
    (encodeWriteFrame cfg station address count words).take 6 = requestHeader station fnWrite address count := rfl

theorem encodeWriteFrame_getD_six :
    (encodeWriteFrame cfg station address count words).getD 6 0 = byteCountOf count := rfl

theorem encodeWriteFrame_getD_data {j : Nat} (h : j < 2 * count.toNat) :
    (encodeWriteFrame cfg station address count words).getD (7 + j) 0 = (dataBytes count.toNat words).getD j 0 := by
  rw [encodeWriteFrame_eq_withTxCrc, withTxCrc_getD_of_lt cfg (by rw [writeBody_length]; omega), writeBody_getD_data]

theorem encodeWriteFrame_take_body :
    (encodeWriteFrame cfg station address count words).take (7 + 2 * count.toNat) = writeBody station address count words := by
  rw [← writeBody_length station address count words]
  exact withTxCrc_take cfg _

/-- The two bytes after the body are its check value, low byte first. -/
theorem encodeWriteFrame_getD_crc :
    (encodeWriteFrame cfg station address count words).getD (7 + 2 * count.toNat) 0 =
      loByte (crcOf cfg (writeBody station address count words)) ∧
    (encodeWriteFrame cfg station address count words).getD (8 + 2 * count.toNat) 0 =
      hiByte (crcOf cfg (writeBody station address count words)) := by
  rw [show 8 + 2 * count.toNat = 7 + 2 * count.toNat + 1 by omega, ← writeBody_length station address count words]
  exact ⟨withTxCrc_getD_length cfg _, withTxCrc_getD_length_succ cfg _⟩

end WriteBody

/-- Settles O8: the frame is the body and its checksum; the data are read off the body word by word. -/
theorem encodeWriteGivesTheRequestBytes : Obligations.EncodeWriteGivesTheRequestBytes := by
  intro s station address count words hcount _
  obtain ⟨hlo, hhi⟩ := encodeWriteFrame_getD_crc s.cfg station address count words
  refine ⟨encodeWriteFrame s.cfg station address count words, exec_encodeWrite station address count words s,
    encodeWriteFrame_length s.cfg station address count words, encodeWriteFrame_take_six s.cfg station address count words, ?_,
    fun i hi => ?_, ?_, ?_⟩
  · rw [encodeWriteFrame_getD_six, byteCountOf_toNat hcount]
  · rw [show 8 + 2 * i = 7 + (2 * i + 1) by omega, encodeWriteFrame_getD_data _ _ _ _ _ (by omega),
      encodeWriteFrame_getD_data _ _ _ _ _ (by omega)]
    exact dataBytes_getD words hi
  · rw [encodeWriteFrame_take_body]; exact hlo
  · rw [encodeWriteFrame_take_body]; exact hhi

/-- Settles O7. -/
theorem encodeReadGivesTheEightRequestBytes : Obligations.EncodeReadGivesTheEightRequestBytes := by
  rintro s station address count c header rfl rfl
  exact exec_encodeRead station address count s

/-! The request frame of a state is the answer of the function that `FN` names (R222). -/

theorem reqFrame_read {s : State} (h : s.fn = fnRead) : reqFrame s = encodeReadFrame s.cfg s.station s.addr s.count := if_pos h

theorem reqFrame_write {s : State} (h : s.fn = fnWrite) :
    reqFrame s = encodeWriteFrame s.cfg s.station s.addr s.count (s.pword.toList.take s.count.toNat) := by
  rw [reqFrame, if_neg (by rw [h]; decide), if_pos h]

/-- Settles O28. -/
theorem requestFrameFollowsTheFunction : Obligations.RequestFrameFollowsTheFunction := by
  refine fun s => ⟨fun hread => ⟨?_, reqLen_read hread⟩, fun hwrite => ⟨?_, reqLen_write hwrite⟩, rfl⟩
  · rw [exec_encodeRead, reqFrame_read hread]
  · rw [exec_encodeWrite, reqFrame_write hwrite]

/-- Settles O26. -/
theorem txByteTransfersAndTxStallHolds : Obligations.TxByteTransfersAndTxStallHolds := by
  rintro s b hp rfl
  refine ⟨fun hlt => ?_, ?_⟩
  · rw [exec_eq_after, after_txByte, if_pos ⟨hp, hlt⟩, transferByte_tx hp]
  · rw [exec_eq_after, after_txStall, offerFrame_of_tx hp]

/-- Settles O27: at the last byte `TXI` is `ReqLen − 1`. -/
theorem txLastOpensTheReceiveWindow : Obligations.TxLastOpensTheReceiveWindow := by
  rintro s b hp hlast rfl
  rw [exec_eq_after, after_txLast, if_pos ⟨hp, hlast⟩, transferByte_tx hp, ← hlast, Nat.add_sub_cancel]
  rfl

end Sys2Proof.Machine

/-! The response decoder (spec/44_response_decoder.md R240 to R245): which check decides the answer, and what is read out of a frame that
passes them. -/

namespace Sys2Proof.Machine

theorem exec_decode (buf : List Byte) (s : State) :
    exec (.decode buf) s = .next { s with result := .decoded (decodeCandidate s.cfg buf) } := rfl

@[simp] theorem projectWords_length (buf : List Byte) (n : Nat) : (projectWords buf n).length = n := by
  simp [projectWords]

/-- Word `i` of the projection as a number (R85, R244). -/
theorem projectWords_getD_toNat (buf : List Byte) {n i : Nat} (h : i < n) :
    ((projectWords buf n).getD i 0).toNat = (buf.getD (3 + 2 * i) 0).toNat * 256 + (buf.getD (4 + 2 * i) 0).toNat := by
  rw [projectWords_getD buf h, joinBytes_toNat]

/-- Settles O10: the clauses are the decoder's four cases, and each case excludes the other three clauses. -/
theorem decodeAppliesItsChecksInOrder : Obligations.DecodeAppliesItsChecksInOrder := by
  intro s buf x hx
  obtain rfl : x = carriedCrc s.cfg buf := hx
  refine ⟨decodeCandidate s.cfg buf, exec_decode buf s, ?_⟩
  rcases decodeCandidate_cases s.cfg buf with
    ⟨hshort, hd⟩ | ⟨hlen, hcrc, hd⟩ | ⟨hlen, hcrc, hbad, hd⟩ | ⟨hlen, hcrc, hfits, hd⟩
  · exact ⟨fun _ => hd, fun _ => by omega, fun _ => by omega, fun _ => by omega⟩
  · exact ⟨fun _ => by omega, fun _ _ => hd, fun _ h => absurd h hcrc, fun _ h => absurd h hcrc⟩
  · exact ⟨fun _ => by omega, fun _ h => absurd hcrc h, fun _ _ _ => hd, fun _ _ _ => by omega⟩
  · exact ⟨fun _ => by omega, fun _ h => absurd hcrc h, fun _ _ _ => by omega, fun _ _ _ =>
      ⟨_, hd, projectWords_length buf _, fun _ hi => projectWords_getD_toNat buf hi⟩⟩

/-- Settles O15: `DECODE` accepts the frame, and its projection holds the frame's header and its data words. -/
theorem decodeReadsBackBuiltResponses : Obligations.DecodeReadsBackBuiltResponses := by
  intro cfg f hdata
  refine ⟨projectWords (encodeRespFrame cfg f) (f.byteCount.toNat / 2), ?_, projectWords_length _ _, fun i hi => ?_⟩
  · rw [decodeCandidate_encodeRespFrame cfg hdata, projectFrame_encodeRespFrame]
  · exact projectWords_encodeRespFrame_getD cfg hdata hi

end Sys2Proof.Machine

/-! Host access (spec/45_session_and_host.md R261 to R263): the value a read of each index shows, and what a write to each index
stores. -/

namespace Sys2Proof.Machine

theorem exec_hrd (idx : HostIndex) (s : State) :
    exec (.hrd idx) s = .next { s with out := { s.out with hRdata := readHost s idx } } := rfl

theorem exec_hwr (idx : HostIndex) (data : HostData) (s : State) : exec (.hwr idx data) s = .next (writeHost idx data s) := rfl

theorem index_eq_ofNat {idx : HostIndex} {n : Nat} (h : idx.toNat = n) : idx = BitVec.ofNat 9 n := by
  rw [← h, BitVec.ofNat_toNat, BitVec.setWidth_eq]

theorem ackCommand_of_idle {s : State} (h : s.phase = .idle) : ackCommand s = acknowledge s := if_pos h

theorem ackCommand_of_active {s : State} (h : s.phase ≠ .idle) : ackCommand s = s := if_neg h

section Read

variable (s : State)

/-- `IDLETK` is read as a number of ticks, 35 dividers (spec/10_state.md R45). -/
theorem readHost_idletk_toNat : (readHost s 0x003).toNat = 35 * s.bauddiv.toNat :=
  (BitVec.toNat_setWidth_of_le (by decide)).trans (idleTicks_toNat s.bauddiv)

theorem readHost_pword {idx : HostIndex} {i : Fin 127} (h : idx.toNat = 0x80 + i.val) :
    readHost s idx = s.pword[i].setWidth 32 := by
  rw [readHost, hostReg_pword h]

theorem readHost_rword {idx : HostIndex} {i : Fin 127} (h : idx.toNat = 0x100 + i.val) :
    readHost s idx = if s.rcode = .ok ∧ i.val < s.rcount.toNat then s.rword[i].setWidth 32 else 0 := by
  rw [readHost, hostReg_rword h]

theorem readHost_unmapped {idx : HostIndex}
    (h : 0x0A ≤ idx.toNat ∧ idx.toNat ≤ 0x7F ∨ idx.toNat = 0xFF ∨ 0x17F ≤ idx.toNat) : readHost s idx = 0 := by
  rw [readHost, hostReg_unmapped h]

/-- The indices from 0x100 up are those of the result store, then unmapped ones (spec/10_state.md R53). -/
theorem rword_or_unmapped {idx : HostIndex} (h : 0x100 ≤ idx.toNat) :
    (∃ i : Fin 127, idx.toNat = 0x100 + i.val) ∨ 0x17F ≤ idx.toNat := by
  by_cases hi : idx.toNat < 0x17F
  · exact .inl ⟨⟨idx.toNat - 0x100, by omega⟩, by simp only; omega⟩
  · exact .inr (by omega)

/-- Without a result, `RHEAD` and every index from the result store up read 0 (R33, R51). -/
theorem readHost_without_result (h : s.rcode ≠ .ok) :
    readHost s 0x008 = 0 ∧ ∀ idx : HostIndex, 0x100 ≤ idx.toNat → readHost s idx = 0 := by
  refine ⟨if_neg h, fun idx hidx => ?_⟩
  rcases rword_or_unmapped hidx with ⟨i, hi⟩ | hi
  · rw [readHost_rword s hi, if_neg fun hc => h hc.1]
  · exact readHost_unmapped s (.inr (.inr hi))

end Read

/-- Settles O16: an index below 0x0A is one register; above them stand the two stores and the unmapped indices. -/
theorem hostReadsFollowTheIndexMap : Obligations.HostReadsFollowTheIndexMap := by
  intro s idx
  refine ⟨readHost s idx, exec_hrd idx s, fun h => ?_, fun h => ?_, fun h => ?_, fun h => ?_, fun h => ?_, fun h => ?_,
    fun h => ?_, fun h => ?_, fun h => ?_, fun h => ?_, fun i => readHost_pword s, fun i => readHost_rword s,
    readHost_unmapped s⟩
  case refine_4 => rw [index_eq_ofNat h]; exact readHost_idletk_toNat s
  all_goals rw [index_eq_ofNat h]; rfl

section Write

variable {s : State} {idx : HostIndex}

/-- While the block is idle a write to any index but those of `CMD` and `ACK` is a store. -/
theorem writeHost_of_idle (hp : s.phase = .idle) (hcmd : idx.toNat ≠ 0x00) (hack : idx.toNat ≠ 0x09) (data : HostData) :
    writeHost idx data s = storeHost idx data s := by
  rw [writeHost, if_neg (mt (congrArg BitVec.toNat) hcmd), if_neg (not_not.2 hp), if_neg (mt (congrArg BitVec.toNat) hack)]

/-- While the block is active a write to any index but that of `CMD` is ignored (R263). -/
theorem writeHost_of_active (hp : s.phase ≠ .idle) (hcmd : idx.toNat ≠ 0x00) (data : HostData) : writeHost idx data s = s := by
  rw [writeHost, if_neg (mt (congrArg BitVec.toNat) hcmd), if_pos hp]

theorem storeHost_pword {i : Fin 127} (h : idx.toNat = 0x80 + i.val) (data : HostData) (s : State) :
    storeHost idx data s = { s with pword := s.pword.set i.val (low16 data) i.isLt } := by
  rw [storeHost, hostReg_pword h]

/-- The result store and the unmapped indices ignore writes (spec/20_memory.md R91). -/
theorem storeHost_ignored (h : 0x0A ≤ idx.toNat ∧ idx.toNat ≤ 0x7F ∨ 0xFF ≤ idx.toNat) (data : HostData) (s : State) :
    storeHost idx data s = s := by
  have hunmapped : (0x0A ≤ idx.toNat ∧ idx.toNat ≤ 0x7F ∨ idx.toNat = 0xFF ∨ 0x17F ≤ idx.toNat) → storeHost idx data s = s :=
    fun hi => by rw [storeHost, hostReg_unmapped hi]
  by_cases hres : 0x100 ≤ idx.toNat
  · rcases rword_or_unmapped hres with ⟨i, hi⟩ | hi
    · rw [storeHost, hostReg_rword hi]
    · exact hunmapped (.inr (.inr hi))
  · exact hunmapped (by omega)

end Write

/-- Settles O19: a write in `PHASE = IDLE` is a store, but for the indices of `CMD` and `ACK`, and `hostReg` says of which register. -/
theorem hostWritesFollowTheIndexMap : Obligations.HostWritesFollowTheIndexMap := by
  intro s idx data
  simp only [exec_hwr]
  refine ⟨fun h => by rw [index_eq_ofNat h]; rfl, fun hp h => by rw [writeHost_of_active hp h], fun hp => ?_⟩
  refine ⟨fun h => ?_, fun h => ?_, fun h => ?_, fun h => ?_, fun h => ?_, fun h => ?_, fun i h => ?_, fun h => ?_⟩
  case refine_6 =>
    have hwrite : writeHost idx data s = ackCommand s := by rw [index_eq_ofNat h]; exact (after_ack s data).symm
    rw [hwrite, ackCommand_of_idle hp]; rfl
  case refine_7 =>
    refine ⟨_, by rw [writeHost_of_idle hp (by omega) (by omega), storeHost_pword h], fun j => ?_⟩
    simp [Vector.getElem_set, low16, eq_comm, Fin.ext_iff]
  case refine_8 =>
    congr 1
    rcases h with h | h | h | h
    · exact writeHost_readOnly (.inl (index_eq_ofNat h)) data s
    · exact writeHost_readOnly (.inr (.inl (index_eq_ofNat h))) data s
    · exact writeHost_readOnly (.inr (.inr (index_eq_ofNat h))) data s
    · rw [writeHost_of_idle hp (by omega) (by omega), storeHost_ignored h]
  all_goals rw [writeHost_of_idle hp (by omega) (by omega), index_eq_ofNat h]; rfl

end Sys2Proof.Machine

/-! The commands (spec/45_session_and_host.md R263 to R269): `START`, refused or accepted, and `ACK`. -/

namespace Sys2Proof.Machine

theorem exec_startRead (s : State) : exec .startRead s = .next (startCommand fnRead s) := rfl

theorem exec_startWrite (s : State) : exec .startWrite s = .next (startCommand fnWrite s) := rfl

theorem exec_startRefuse (fn : Byte) (s : State) :
    exec (.startRefuse fn) s = .next (if legality fn s = .none then s else refuseStart (legality fn s) s) := rfl

theorem exec_ack (s : State) : exec .ack s = .next (ackCommand s) := rfl

/-- Settles O20. -/
theorem activeBlockLocksHostWrites : Obligations.ActiveBlockLocksHostWrites := by
  intro s data hp
  refine ⟨fun idx hidx => ?_, ?_, ?_⟩
  · rw [exec_hwr, writeHost_of_active hp hidx]
  · rw [exec_ack, ackCommand_of_active hp]
  · have hstart : writeHost 0x000 data s = startCommand (low8 data) s := if_pos rfl
    rw [exec_hwr, hstart, startCommand_busy _ hp]
    rfl

theorem ne_zero_of_toNat_pos {w : Nat} {x : BitVec w} (h : 0 < x.toNat) : x ≠ 0 := by
  rintro rfl
  simp at h

section Legality

variable {s : State} {fn : Byte}

theorem legality_busy (hp : s.phase ≠ .idle) : legality fn s = .busy := if_pos hp

theorem legality_illfn (hp : s.phase = .idle) (hread : fn ≠ fnRead) (hwrite : fn ≠ fnWrite) : legality fn s = .illfn := by
  rw [legality, if_neg (not_not.2 hp), if_pos ⟨hread, hwrite⟩]

theorem legality_cfg (hp : s.phase = .idle) (hfn : fn = fnRead ∨ fn = fnWrite) (hcfg : s.bauddiv = 0 ∨ s.respto = 0) :
    legality fn s = .cfg := by
  rw [legality, if_neg (not_not.2 hp), if_neg (not_and_or.2 (hfn.imp not_not.2 not_not.2)), if_pos hcfg]

theorem legality_count (hp : s.phase = .idle) (hbaud : s.bauddiv ≠ 0) (hresp : s.respto ≠ 0) (hcount : 127 < s.count.toNat) :
    legality fnWrite s = .count := by
  rw [legality, if_neg (not_not.2 hp), if_neg (by decide), if_neg (not_or.2 ⟨hbaud, hresp⟩), if_pos ⟨rfl, hcount⟩]

/-- Each of the three rows refuses with the cause that the legality checks give for its function (assumption 12). -/
theorem exec_start_of_refused {i : Instr} {cause : Cause}
    (hi : i = .startRead ∧ fn = fnRead ∨ i = .startWrite ∧ fn = fnWrite ∨ i = .startRefuse fn)
    (hl : legality fn s = cause) (hcause : cause ≠ .none) :
    exec i s = .next { s with cmderr := true, cmdcause := cause } := by
  have hrefused : ¬ legality fn s = .none := by rwa [hl]
  have hstart : startCommand fn s = refuseStart cause s := by rw [startCommand, if_neg hrefused, hl]
  rcases hi with ⟨rfl, rfl⟩ | ⟨rfl, rfl⟩ | rfl
  · rw [exec_startRead, hstart]; rfl
  · rw [exec_startWrite, hstart]; rfl
  · rw [exec_startRefuse, if_neg hrefused, hl]; rfl

/-- An accepted `START` (R265). -/
theorem startCommand_of_accepted (hp : s.phase = .idle) (hfn : fn = fnRead ∨ fn = fnWrite) (hbaud : 0 < s.bauddiv.toNat)
    (hresp : 0 < s.respto.toNat) (hcount : fn = fnWrite → s.count.toNat ≤ 127) : startCommand fn s = acceptStart fn s :=
  if_pos ((legality_none fn s).2 ⟨hp, hfn, ne_zero_of_toNat_pos hbaud, ne_zero_of_toNat_pos hresp, hcount⟩)

end Legality

/-- Settles O21: a clause for each check, in the order of R266. -/
theorem startIsRefusedWithTheFirstCause : Obligations.StartIsRefusedWithTheFirstCause := by
  intro s fn i hi
  refine ⟨fun hp => ?_, fun hp hfn => ?_, fun hp hfn hcfg => ?_, fun hp hfn hbaud hresp hcount => ?_⟩
  · exact exec_start_of_refused hi (legality_busy hp) nofun
  · exact exec_start_of_refused hi (legality_illfn hp hfn.1 hfn.2) nofun
  · have hzero : s.bauddiv = 0 ∨ s.respto = 0 := hcfg.imp (BitVec.eq_of_toNat_eq ·) (BitVec.eq_of_toNat_eq ·)
    exact exec_start_of_refused hi (legality_cfg hp hfn hzero) nofun
  · subst hfn
    exact exec_start_of_refused hi
      (legality_count hp (ne_zero_of_toNat_pos hbaud) (ne_zero_of_toNat_pos hresp) hcount) nofun

/-- Settles O22. -/
theorem startReadBeginsAReadOperation : Obligations.StartReadBeginsAReadOperation := by
  intro s hp hbaud hresp
  refine ⟨acceptStart fnRead s, ?_, rfl, reqFrame_read rfl⟩
  rw [exec_startRead, startCommand_of_accepted hp (.inl rfl) hbaud hresp nofun]

/-- Settles O23. -/
theorem startWriteBeginsAWriteOperation : Obligations.StartWriteBeginsAWriteOperation := by
  intro s hp hbaud hresp hcount
  refine ⟨acceptStart fnWrite s, ?_, rfl, reqFrame_write rfl⟩
  rw [exec_startWrite, startCommand_of_accepted hp (.inr rfl) hbaud hresp fun _ => hcount]

/-- Settles O24. -/
theorem ackConsumesTheResult : Obligations.AckConsumesTheResult := by
  intro s
  rw [exec_ack]
  refine ⟨fun hp => ?_, fun hp => by rw [ackCommand_of_active hp]⟩
  rw [ackCommand_of_idle hp]
  exact ⟨acknowledge s, rfl, rfl, readHost_without_result (acknowledge s) nofun⟩

end Sys2Proof.Machine

/-! The overall wait and the completions of an operation (spec/45_session_and_host.md R270 to R272). -/

namespace Sys2Proof.Machine

/-- `WAITC` counts a tick below `RESPTO` without wrapping (spec/10_state.md R43). -/
theorem waitc_add_one_toNat {s : State} (h : s.waitc.toNat + 1 < s.respto.toNat) : (s.waitc + 1).toNat = s.waitc.toNat + 1 :=
  toNat_add_one h s.respto.isLt.le

/-- Settles O37. -/
theorem waitTickCountsTheOverallWait : Obligations.WaitTickCountsTheOverallWait := by
  intro s hp hlt
  refine ⟨{ s with waitc := s.waitc + 1 }, ?_, rfl, waitc_add_one_toNat hlt⟩
  rw [exec_eq_after, after_waitTick, if_pos ⟨hp, hlt⟩]

/-- Settles O38. -/
theorem waitExpireEndsWithNoResponse : Obligations.WaitExpireEndsWithNoResponse := by
  intro s hp hdue
  refine ⟨complete .noresp s, ?_, rfl, readHost_without_result (complete .noresp s) nofun⟩
  rw [exec_eq_after, after_waitExpire, if_pos ⟨hp, hdue⟩]

theorem exec_completeOk_of_wait {s : State} (hp : s.phase = .wait) (f : ParsedFrame) :
    exec (.completeOk f) s = .next (completeWith f s) := congrArg Host.Outcome.next (if_pos hp)

/-- A Parsed Frame has at most 127 registers, as its byte-count is a byte (R244). -/
theorem registerCount_le {f : ParsedFrame} (h : f.wellFormed = true) : f.registerCount ≤ 127 := by
  obtain ⟨hcount, -⟩ : f.registerCount = f.byteCount.toNat / 2 ∧ f.values.length = f.registerCount := by
    simpa [ParsedFrame.wellFormed] using h
  have := f.byteCount.isLt
  omega

/-- The words below the register count are the frame's, those above are kept (R272). -/
theorem completeWith_rword (f : ParsedFrame) (s : State) (i : Fin 127) :
    (completeWith f s).rword[i] = if i.val < f.registerCount then f.values.getD i.val 0 else s.rword[i] := by
  simp [completeWith]

/-- `RCOUNT` holds the register count (spec/10_state.md R34). -/
theorem completeWith_rcount_toNat {f : ParsedFrame} (h : f.registerCount ≤ 127) (s : State) :
    (completeWith f s).rcount.toNat = f.registerCount := Nat.mod_eq_of_lt (Nat.lt_succ_of_le h)

/-- Settles O36: the words are gated by `RCODE = OK` and `RCOUNT`, which the completion has set. -/
theorem completeOkStoresTheParsedFrame : Obligations.CompleteOkStoresTheParsedFrame := by
  intro s f hp hwf
  have hle := registerCount_le hwf
  have hrcount := completeWith_rcount_toNat hle s
  refine ⟨completeWith f s, exec_completeOk_of_wait hp f, rfl, hrcount, fun i hi => ?_, fun i hi => ?_, rfl⟩
  · rw [completeWith_rword, if_neg (by omega)]
  · have hidx : (BitVec.ofNat 9 (0x100 + i) : HostIndex).toNat = 0x100 + (⟨i, by omega⟩ : Fin 127).val :=
      Nat.mod_eq_of_lt (by omega)
    rw [readHost_rword _ hidx, if_pos ⟨rfl, by rwa [hrcount]⟩, completeWith_rword, if_pos hi]

end Sys2Proof.Machine

/-! The tick seen as one instruction (R280, R281): the host's, the request's or the response's. -/

namespace Sys2Proof.Machine

/-- Settles O44. -/
theorem stepIsTotal : Obligations.StepIsTotal := fun s =>
  ⟨_, performAll_eq_afterAll (tickOps (currentInput s) s) (sampled s)⟩

theorem performAll_singleton (i : Instr) (s : State) : performAll [i] s = exec i s := by
  rw [performAll_eq_afterAll, exec_eq_after]; rfl

/-- Settles O41. -/
theorem stepRunsTheHostInstruction : Obligations.StepRunsTheHostInstruction := by
  intro s inp rest i hin hr hi
  have hhost : hostOps inp = [i] := by
    rw [hostOps, show decodePort inp.host = .ok i from hi]; rfl
  have hstep : step s = performAll (offerOps s ++ i :: phaseOps inp s) (sampled s) := by
    rw [step, currentInput_cons hin, tickOps, hr, if_neg Bool.false_ne_true, hhost]; rfl
  refine ⟨hstep, fun hp hrx => ?_⟩
  have hoffer : offerOps s = [] := if_neg (by rw [hp]; nofun)
  have hphase : phaseOps inp s = [] := by rw [phaseOps_idle hp, discardOps, hrx]; rfl
  rw [hstep, hoffer, hphase, List.nil_append, performAll_singleton]

/-- An instruction that a request frame decodes to offers that frame to the transmitter. -/
theorem exec_of_decodeRequest {s : State} {bytes : List Byte} {i : Instr} (h : decodeRequest s.cfg bytes = .ok i) :
    exec i s = .next (offerFrame bytes s) := by
  obtain ⟨-, hencode⟩ := decodeRequest_eq_ok_iff.1 h
  rcases encode_eq_request hencode with ⟨station, address, count, rfl, rfl⟩ | ⟨station, address, count, words, rfl, rfl⟩
  · exact exec_reqRead station address count s
  · exact exec_reqWrite station address count words s

/-- On a tick that presents nothing no host operation is performed. -/
theorem hosted_of_quiet {s : State} (h : currentInput s = TickInput.quiet) : hosted s = offered s := by
  rw [hosted, h]; rfl

/-- Settles O42: the transmitter is not ready, so the tick leaves the request frame offered. -/
theorem stepRunsTheRequestFrame : Obligations.StepRunsTheRequestFrame := by
  intro s rest i hin hp hi
  have hquiet : currentInput s = TickInput.quiet := currentInput_cons hin
  have hi' : decodeRequest (sampled s).cfg (reqFrame s) = .ok i := hi
  have hstall : (currentInput s).txReady = false := by rw [hquiet]; rfl
  rw [exec_of_decodeRequest hi']
  rcases step_tx_cases hp (by rw [hquiet]; rfl) with ⟨-, hstep⟩ | ⟨hready, -⟩ | ⟨hready, -⟩ | ⟨hready, -⟩
  · rw [hstep, hosted_of_quiet hquiet]; rfl
  all_goals exact absurd (hstall.symm.trans hready) Bool.false_ne_true

/-- The tick performs `COMPLETE.OK` when the idle timeout expires on a candidate frame that `DECODE` accepts (R281 step b). -/
theorem completesNow_eq_true_iff {inp : TickInput} {s : State} :
    completesNow inp s = true ↔
      assemblerOp inp s = .idleExpire ∧ 0 < s.len ∧ ∃ f, decodeCandidate s.cfg (candidate s) = .ok f := by
  unfold completesNow
  split
  · next f hop hd => exact ⟨fun h => ⟨hop, of_decide_eq_true h, f, hd⟩, fun ⟨_, h, _⟩ => decide_eq_true h⟩
  · next hne => exact iff_of_false Bool.false_ne_true fun ⟨hop, _, f, hd⟩ => hne f hop hd

/-- A candidate frame that `DECODE` accepts has bytes (R241). -/
theorem len_pos_of_decodeCandidate_ok {s : State} {f : ParsedFrame} (h : decodeCandidate s.cfg (candidate s) = .ok f) :
    0 < s.len := by
  obtain ⟨-, hlen, -⟩ := decodeCandidate_ok h
  rw [candidate_length] at hlen
  omega

/-- Settles O43: the candidate frame is the encoding of the response it decodes to, so the hand-over of the one is that of the other,
and it completes, so the overall wait does not count the tick. -/
theorem stepRunsTheResponseFrame : Obligations.StepRunsTheResponseFrame := by
  intro s rest i hin hp hdue hi
  have hi' : decodeResponse s.cfg (candidate s) = .ok i := hi
  obtain ⟨hd, -, -⟩ := decodeResponse_eq_ok_iff_decodeCandidate.1 hi'
  obtain ⟨f, rfl, hframe⟩ := encode_eq_response (decodeResponse_eq_ok_iff.1 hi').2
  have hquiet : currentInput s = TickInput.quiet := currentInput_cons hin
  have hop : assemblerOp (currentInput s) s = .idleExpire := assemblerOp_of_timeout (by rw [hquiet]; rfl) hdue
  have hcompletes : completesNow (currentInput s) s = true :=
    completesNow_eq_true_iff.2 ⟨hop, len_pos_of_decodeCandidate_ok hd, _, hd⟩
  have hhosted : hosted s = sampled s := by
    rw [hosted_of_quiet hquiet]
    exact offerFrame_of_not_tx (s := sampled s) (by rw [sampled_phase, hp]; nofun) _
  have hsel : idleExpireSelected (sampled s) := ⟨hp, hdue⟩
  rw [step_wait hp (by rw [hquiet]; rfl), hop, waitOps, if_pos hcompletes, afterAll_nil, hhosted, after_idleExpire,
    if_pos hsel, exec_resp, if_pos hsel, sampled_cfg, hframe]
  rfl

end Sys2Proof.Machine

/-! The bound on the overall wait (R275): a tick of `PHASE = WAIT` ends the operation or takes one from what is left of `RESPTO`. -/

namespace Sys2Proof.Machine

@[simp] theorem handOver_inputs (buf : List Byte) (s : State) : (handOver buf s).inputs = s.inputs := by
  rcases handOver_cases buf s with ⟨f, -, h⟩ | ⟨-, h⟩ | ⟨-, h⟩ | ⟨-, h⟩ <;> rw [h] <;> rfl

@[simp] theorem endCycle_inputs (buf : List Byte) (s : State) : (endCycle buf s).inputs = s.inputs := by
  rcases endCycle_cases buf s with ⟨-, h⟩ | ⟨-, h⟩ <;> rw [h] <;> simp

/-- No operation of the phase action in `PHASE = WAIT` takes an input from the queue. -/
theorem waitOp_keeps_inputs {i : Instr} (hi : IsWaitOp i) (s : State) : (after i s).inputs = s.inputs := by
  cases hi with
  | rxByte data => rw [after_rxByte]; split <;> rfl
  | rxDrop => rw [after_rxDrop]; split <;> rfl
  | silTick => rw [after_silTick]; split <;> rfl
  | idleExpire => rw [after_idleExpire]; split <;> simp
  | waitTick => rw [after_waitTick]; split <;> rfl
  | waitExpire => rw [after_waitExpire]; split <;> rfl

/-- The end of a receive cycle leaves the overall wait alone, or completes the operation. -/
theorem endCycle_waitc (buf : List Byte) (s : State) :
    (endCycle buf s).waitc = s.waitc ∨ (endCycle buf s).phase = .idle := by
  rcases endCycle_cases buf s with ⟨-, he⟩ | ⟨-, he⟩ <;> rw [he]
  · exact .inl rfl
  · rcases handOver_cases buf s with ⟨f, -, hh⟩ | ⟨-, hh⟩ | ⟨-, hh⟩ | ⟨-, hh⟩ <;> rw [hh]
    · exact .inr rfl
    · exact .inl rfl
    · exact .inl rfl
    · exact .inl rfl

/-- The assembler's operation leaves the overall wait alone, or completes the operation. -/
theorem after_assemblerOp_waitc (inp : TickInput) (s u : State) :
    (after (assemblerOp inp s) u).waitc = u.waitc ∨ (after (assemblerOp inp s) u).phase = .idle := by
  rcases assemblerOp_cases inp s with ⟨data, -, -, e⟩ | ⟨_, -, -, e⟩ | ⟨-, -, e⟩ | ⟨-, -, e⟩ <;> rw [e]
  · rw [after_rxByte]; split <;> exact .inl rfl
  · rw [after_rxDrop]; split <;> exact .inl rfl
  · rw [after_silTick]; split <;> exact .inl rfl
  · rw [after_idleExpire]
    split
    · exact endCycle_waitc _ u
    · exact .inl rfl

theorem timeout_of_assemblerOp {inp : TickInput} {s : State} (h : assemblerOp inp s = .idleExpire) :
    idleTicksOf s ≤ s.sil.toNat + 1 := by
  rcases assemblerOp_cases inp s with ⟨_, -, -, e⟩ | ⟨_, -, -, e⟩ | ⟨-, -, e⟩ | ⟨-, hdue, -⟩
  · exact nomatch e.symm.trans h
  · exact nomatch e.symm.trans h
  · exact nomatch e.symm.trans h
  · exact hdue

/-- At the idle timeout a candidate frame that `DECODE` accepts completes the operation (R175, R272). -/
theorem after_idleExpire_of_ok {s : State} {f : ParsedFrame} (hsel : idleExpireSelected s)
    (hd : decodeCandidate s.cfg (candidate s) = .ok f) : after .idleExpire s = clearAssembler (completeWith f s) := by
  have hexpire := exec_idleExpire_of_pos hsel (len_pos_of_decodeCandidate_ok hd)
  rw [exec_eq_after, handOver, hd] at hexpire
  exact Host.Outcome.next.inj hexpire

/-- After an assembler's operation that leaves the operation waiting, the overall wait counts the tick: it is not used up, or
`WAIT.EXPIRE` ends the operation. -/
theorem afterAll_waitOps_counts {inp : TickInput} {s u : State} (hrespto : u.respto = s.respto)
    (hwaitc : u.waitc = s.waitc ∨ u.phase = .idle) (hcompletes : completesNow inp s = true → u.phase = .idle)
    (ht : (afterAll (waitOps inp s) u).phase = .wait) :
    (afterAll (waitOps inp s) u).waitc.toNat = s.waitc.toNat + 1 := by
  have hsame : u.phase = .wait → u.waitc = s.waitc := fun hu => hwaitc.resolve_right (by rw [hu]; nofun)
  rcases waitOps_cases inp s with ⟨hc, e⟩ | ⟨-, hlt, e⟩ | ⟨-, hdue, e⟩ <;> rw [e] at ht ⊢
  · exact nomatch (hcompletes hc).symm.trans ht
  · rw [afterAll_cons, afterAll_nil, after_waitTick] at ht ⊢
    have hu : u.phase = .wait := by split at ht <;> exact ht
    rw [← hsame hu, ← hrespto] at hlt
    rw [if_pos ⟨hu, hlt⟩, ← hsame hu]
    exact waitc_add_one_toNat hlt
  · rw [afterAll_cons, afterAll_nil, after_waitExpire] at ht
    split at ht
    · exact nomatch ht
    · next hnot => exact absurd ⟨ht, by rwa [hsame ht, hrespto]⟩ hnot

section WaitTick

variable {s t : State} (hp : s.phase = .wait) (hr : (currentInput s).rst = false)
include hp

/-- Where the tick performs `COMPLETE.OK`, the assembler's operation has ended the operation. -/
theorem after_assemblerOp_phase_of_completesNow (h : completesNow (currentInput s) s = true) :
    (after (assemblerOp (currentInput s) s) (hosted s)).phase = .idle := by
  obtain ⟨hop, hlen, f, hd⟩ := completesNow_eq_true_iff.1 h
  have hsel : idleExpireSelected (hosted s) := by
    rw [hosted_of_active (ne_idle_of_wait hp)]; exact ⟨hp, timeout_of_assemblerOp hop⟩
  have hd' : decodeCandidate (hosted s).cfg (candidate (hosted s)) = .ok f := by
    rw [hosted_of_active (ne_idle_of_wait hp)]; exact hd
  rw [hop, after_idleExpire_of_ok hsel hd']
  rfl

include hr

/-- A tick after which the operation still waits has counted, and has taken one input. -/
theorem step_wait_counts (h : step s = .next t) (ht : t.phase = .wait) :
    t.waitc.toNat = s.waitc.toNat + 1 ∧ t.inputs = s.inputs.tail := by
  obtain rfl := Host.Outcome.next.inj ((step_wait hp hr).symm.trans h)
  have hhosted : (hosted s).respto = s.respto ∧ (hosted s).waitc = s.waitc ∧ (hosted s).inputs = s.inputs.tail := by
    rw [hosted_of_active (ne_idle_of_wait hp)]; exact ⟨rfl, rfl, rfl⟩
  obtain ⟨hrespto, hwaitc, hinputs⟩ := hhosted
  refine ⟨afterAll_waitOps_counts ?_ ?_ (after_assemblerOp_phase_of_completesNow hp) ht, ?_⟩
  · have hkept := waitOp_keeps_operands (isWaitOp_assemblerOp (currentInput s) s) (hosted s)
    exact (congrArg Operands.respto hkept).trans hrespto
  · exact (after_assemblerOp_waitc (currentInput s) s (hosted s)).imp_left (·.trans hwaitc)
  · exact afterAll_induction (P := fun u => u.inputs = s.inputs.tail) (l := _ :: _)
      (fun i hi u hu => (waitOp_keeps_inputs (isWaitOp_of_mem hi) u).trans hu) hinputs

end WaitTick

/-- Settles O57: a tick that does not end the operation keeps the invariants and `RESPTO`, counts, and leaves one input less; with no
input left the invariants say that the operation waits no more. -/
theorem waitEndsWithinItsBound : Obligations.WaitEndsWithinItsBound := by
  intro s l
  induction l generalizing s with
  | nil =>
    intro rest b hp _ hlen
    obtain ⟨-, -, -, hwaitc⟩ := b.waitBounds hp
    rw [List.length_nil] at hlen
    omega
  | cons inp l ih =>
    intro rest b hp hin hlen hrst
    have hr : (currentInput s).rst = false := by
      rw [currentInput_cons hin]; exact hrst inp List.mem_cons_self
    obtain ⟨t, ht⟩ := stepIsTotal s
    obtain ⟨-, -, hphase⟩ := phaseMovesOnlyAsTheSequencerSays s t hr ht
    rcases hphase hp with hwait | ⟨hidle, hdone, hcode⟩
    · obtain ⟨hcount, hinputs⟩ := step_wait_counts hp hr ht hwait
      obtain ⟨-, hrespto, -⟩ := operandsStayWhileActive s t (ne_idle_of_wait hp) hr ht
      rw [List.length_cons] at hlen
      obtain ⟨n, u, hn, hu, hend⟩ := ih t rest (stepKeepsTheBoundaryInvariant s t b ht) hwait (by rw [hinputs, hin]; rfl)
        (by rw [hrespto, hcount]; omega) fun i hi => hrst i (List.mem_cons_of_mem inp hi)
      exact ⟨n + 1, u, Nat.succ_le_succ hn, by rw [runTicks, ht]; exact hu, hend⟩
    · refine ⟨1, t, by simp, runTicks_succ (n := 0) rfl |>.trans ht, hidle, hdone, ?_⟩
      cases hc : t.rcode with
      | none => exact absurd hc hcode
      | ok => exact .inl rfl
      | noresp => exact .inr rfl

end Sys2Proof.Machine

/-! The tick on which the idle timeout and the overall wait fall together (spec/60_exceptions.md R308): the frame is handed over
first, so a valid frame ends the operation before the overall wait can, and a discard leaves that to it. -/

namespace Sys2Proof.Machine

/-- Each discard sets its flag (spec/44_response_decoder.md R247). -/
theorem handOver_flags (buf : List Byte) (s : State) :
    (decodeCandidate s.cfg buf = .invalidFrame → (handOver buf s).badcrc = true) ∧
    (decodeCandidate s.cfg buf = .shortFrame → (handOver buf s).short = true) ∧
    (decodeCandidate s.cfg buf = .badLength → (handOver buf s).badlen = true) := by
  refine ⟨fun hd => ?_, fun hd => ?_, fun hd => ?_⟩ <;> rw [handOver, hd] <;> rfl

/-- A discard does not touch what selects `WAIT.EXPIRE` (R247, R271). -/
theorem waitExpireSelected_handOver {buf : List Byte} {s : State} (hd : ¬ ∃ f, decodeCandidate s.cfg buf = .ok f)
    (hsel : waitExpireSelected s) : waitExpireSelected (handOver buf s) := by
  rcases handOver_cases buf s with ⟨f, hok, -⟩ | ⟨-, hh⟩ | ⟨-, hh⟩ | ⟨-, hh⟩
  · exact absurd ⟨f, hok⟩ hd
  all_goals rw [hh]; exact hsel

section Tie

variable {s : State} (hp : s.phase = .wait)
include hp

theorem hosted_cfg_of_wait : (hosted s).cfg = s.cfg := by rw [hosted_of_active (ne_idle_of_wait hp)]

theorem hosted_badcrc_of_wait : (hosted s).badcrc = s.badcrc := by rw [hosted_of_active (ne_idle_of_wait hp)]

theorem hosted_len_of_wait : (hosted s).len = s.len := by rw [hosted_of_active (ne_idle_of_wait hp)]

theorem candidate_hosted_of_wait : candidate (hosted s) = candidate s :=
  candidate_eq_of_buffer (by rw [hosted_of_active (ne_idle_of_wait hp)]) (hosted_len_of_wait hp)

theorem idleExpireSelected_hosted (hdue : idleTicksOf s ≤ s.sil.toNat + 1) : idleExpireSelected (hosted s) := by
  rw [hosted_of_active (ne_idle_of_wait hp)]; exact ⟨hp, hdue⟩

theorem waitExpireSelected_hosted (hused : s.respto.toNat ≤ s.waitc.toNat + 1) : waitExpireSelected (hosted s) := by
  rw [hosted_of_active (ne_idle_of_wait hp)]; exact ⟨hp, hused⟩

variable (hr : (currentInput s).rst = false) (hrx : (currentInput s).rx = none) (hdue : idleTicksOf s ≤ s.sil.toNat + 1)
include hr hrx hdue

/-- At the idle timeout a valid frame completes the operation, however much of the overall wait is left (R271 (c), R281). -/
theorem step_wait_of_validFrame {f : ParsedFrame} (hd : decodeCandidate s.cfg (candidate s) = .ok f) :
    step s = .next (completeWith f (hosted s)) := by
  have hop := assemblerOp_of_timeout hrx hdue
  have hcompletes : completesNow (currentInput s) s = true :=
    completesNow_eq_true_iff.2 ⟨hop, len_pos_of_decodeCandidate_ok hd, f, hd⟩
  have hd' : decodeCandidate (hosted s).cfg (candidate (hosted s)) = .ok f := by
    rw [hosted_cfg_of_wait hp, candidate_hosted_of_wait hp, hd]
  rw [step_wait hp hr, hop, waitOps, if_pos hcompletes, afterAll_nil,
    after_idleExpire_of_ok (idleExpireSelected_hosted hp hdue) hd']
  rfl

/-- At the idle timeout with the overall wait used up, a frame that `DECODE` rejects is discarded, and then the operation ends with
`NoResponse` (R271 (a), R281). -/
theorem step_wait_of_discard_of_waitUsedUp (hlen : 0 < s.len) (hused : s.respto.toNat ≤ s.waitc.toNat + 1)
    (hd : ¬ ∃ f, decodeCandidate s.cfg (candidate s) = .ok f) :
    step s = .next (complete .noresp (handOver (candidate s) (hosted s))) := by
  have hop := assemblerOp_of_timeout hrx hdue
  have hexpire : after .idleExpire (hosted s) = clearAssembler (handOver (candidate s) (hosted s)) := by
    have hexec := exec_idleExpire_of_pos (idleExpireSelected_hosted hp hdue) (by rwa [hosted_len_of_wait hp])
    rw [exec_eq_after, candidate_hosted_of_wait hp] at hexec
    exact Host.Outcome.next.inj hexec
  have hsel : waitExpireSelected (clearAssembler (handOver (candidate s) (hosted s))) :=
    waitExpireSelected_handOver (by rwa [hosted_cfg_of_wait hp]) (waitExpireSelected_hosted hp hused)
  have hops : waitOps (currentInput s) s = [.waitExpire] := by
    rw [waitOps, if_neg fun hc => hd (completesNow_eq_true_iff.1 hc).2.2, if_neg hused.not_gt]
  rw [step_wait hp hr, hop, hops, afterAll_cons, afterAll_nil, hexpire, after_waitExpire, if_pos hsel]
  rfl

end Tie

/-- Settles O53, by whether `DECODE` accepts the candidate frame. -/
theorem validFrameWinsTheTieWithTheOverallWait : Obligations.ValidFrameWinsTheTieWithTheOverallWait := by
  intro s inp rest hin hr hrx hp hlen hdue hused
  rw [← currentInput_cons hin] at hr hrx
  by_cases hd : ∃ f, decodeCandidate s.cfg (candidate s) = .ok f
  · obtain ⟨f, hf⟩ := hd
    refine ⟨_, step_wait_of_validFrame hp hr hrx hdue hf, rfl, rfl, rfl, rfl, fun _ => ⟨rfl, hosted_badcrc_of_wait hp⟩, ?_⟩
    rw [hf]
    exact ⟨nofun, nofun, nofun⟩
  · obtain ⟨hbadcrc, hshort, hbadlen⟩ := handOver_flags (candidate s) (hosted s)
    rw [hosted_cfg_of_wait hp] at hbadcrc hshort hbadlen
    exact ⟨_, step_wait_of_discard_of_waitUsedUp hp hr hrx hdue hlen hused hd, rfl, rfl, rfl, rfl, fun hok => absurd hok hd,
      fun h => ⟨rfl, hbadcrc h⟩, fun h => ⟨rfl, hshort h⟩, fun h => ⟨rfl, hbadlen h⟩⟩

end Sys2Proof.Machine

/-! The tick with reset (spec/70_reset_and_hazards.md R340): what the reset does not write, the parameters, the inputs and the outputs, is
as the tick had it before the reset. -/

namespace Sys2Proof.Machine

/-- Before its operations a tick has consumed the oldest queued input. -/
theorem offered_inputs (s : State) : (offered s).inputs = s.inputs.tail := by rw [offered_frame]

/-- A second reset finds every field at its reset value, and keeps what the first one kept. -/
theorem resetBlock_idem (s : State) : resetBlock (resetBlock s) = resetBlock s := rfl

/-- The state after a reset is one that `RESET` maps to itself. -/
theorem exec_reset_resetBlock (s : State) : exec .reset (resetBlock s) = .next (resetBlock s) :=
  congrArg Host.Outcome.next (resetBlock_idem s)

/-- Settles O50: the tick leaves the reset of `offered s`, whose outputs are functions of the state before it (`offered_out`). -/
theorem resetWinsOverTheWholeTick : Obligations.ResetWinsOverTheWholeTick := by
  intro s inp rest hin hr
  rw [← currentInput_cons hin] at hr
  have hcfg : (resetBlock (offered s)).cfg = s.cfg := by rw [resetBlock_cfg, offered_cfg]
  have hinputs : (resetBlock (offered s)).inputs = rest := by rw [resetBlock_inputs, offered_inputs, hin, List.tail_cons]
  refine ⟨_, step_eq_of_reset hr, exec_reset_resetBlock _, hcfg, hinputs, ?_⟩
  rw [resetBlock_out, offered_out]
  exact ⟨rfl, rfl, rfl, decide_eq_true_iff, decide_eq_true_iff⟩

end Sys2Proof.Machine
